-- ==== Sys2Proof/Word.lean ====
section
/-! DEFINITION. The widths of the block's quantities: bytes, 16-bit values, host transaction words. -/
namespace Sys2Proof

/-- A byte, `u8` (00_scope.md R6). Every register of the block is one (10_state.md R13). -/
abbrev Byte := BitVec 8

/-- A 16-bit unsigned value, `u16` (00_scope.md R6): `CRC`, `RC`, `FCRC`. -/
abbrev Half := BitVec 16

/-- A host transaction word, 17 bits: `W[16] addr[15:8] data[7:0]` (30_encoding.md R60). -/
abbrev HostWord := BitVec 17

end Sys2Proof
end

