-- ==== Sys2Proof/Syntax.lean ====
section
/-! DEFINITION. The instructions: one constructor per row of spec/opcode_table.json. -/
namespace Sys2Proof

/-- What one host transaction asks of the block. The 18 commands have no operand fields (30_encoding.md R62, R65):
every operand is a register. `wr` and `rd` are the two host transactions of format H (R60). -/
inductive Instr where
  /-- `CFG.INIT`, code `0x80` (46_config_host.md R170). -/
  | cfgInit
  /-- `CRC.INIT`, code `0x90` (40_crc.md R102). -/
  | crcInit
  /-- `CRC.UPD`, code `0x91` (40_crc.md R103). -/
  | crcUpd
  /-- `CRC.BUF`, code `0x92` (40_crc.md R104). -/
  | crcBuf
  /-- `CRC.VFY`, code `0x93` (40_crc.md R105). -/
  | crcVfy
  /-- `CRC.APP`, code `0x94` (40_crc.md R106). -/
  | crcApp
  /-- `IVC.INIT`, code `0xA0` (41_iv_checksum.md R112). -/
  | ivcInit
  /-- `IVC.UPD`, code `0xA1` (41_iv_checksum.md R113). -/
  | ivcUpd
  /-- `AES.ENC`, code `0xB0` (42_aes.md R131). -/
  | aesEnc
  /-- `IV.BUILD`, code `0xC0` (43_iv_builder.md R136). -/
  | ivBuild
  /-- `MAC.GEN`, code `0xD0` (44_mac_keywrap.md R141). -/
  | macGen
  /-- `MAC.VFY`, code `0xD1` (44_mac_keywrap.md R143). -/
  | macVfy
  /-- `KW.1W`, code `0xE0` (44_mac_keywrap.md R145). -/
  | kw1W
  /-- `KW.2W`, code `0xE1` (44_mac_keywrap.md R146). -/
  | kw2W
  /-- `FRM.BUILD`, code `0xF0` (45_frame_codec.md R150). -/
  | frmBuild
  /-- `FRM.SER`, code `0xF1` (45_frame_codec.md R153). -/
  | frmSer
  /-- `FRM.PARSE`, code `0xF2` (45_frame_codec.md R155). -/
  | frmParse
  /-- `FRM.VALID`, code `0xF3` (45_frame_codec.md R157). -/
  | frmValid
  /-- `WR`: every write that is not one of the 18 command words, a write of an illegal command byte to `CMD`
  among them (46_config_host.md R171, 30_encoding.md R61, R63). -/
  | wr (addr data : Byte)
  /-- `RD` (46_config_host.md R172). `ignored` is bits 7:0 of the word, which have no effect (30_encoding.md R60;
  kept so that no bit of a word is lost: log entry 5). -/
  | rd (addr ignored : Byte)
  deriving DecidableEq, Repr

end Sys2Proof
end

