-- ==== Sys2Proof/Machine/Commands.lean ====
section
/-! DEFINITION. The command code table (30_encoding.md R62). -/
namespace Sys2Proof

/-- The 18 assigned command codes and what each selects, in the order of the table of R62. -/
def commandTable : List (Byte × Instr) :=
  [ (0x80, .cfgInit),
    (0x90, .crcInit), (0x91, .crcUpd), (0x92, .crcBuf), (0x93, .crcVfy), (0x94, .crcApp),
    (0xA0, .ivcInit), (0xA1, .ivcUpd),
    (0xB0, .aesEnc),
    (0xC0, .ivBuild),
    (0xD0, .macGen), (0xD1, .macVfy),
    (0xE0, .kw1W), (0xE1, .kw2W),
    (0xF0, .frmBuild), (0xF1, .frmSer), (0xF2, .frmParse), (0xF3, .frmValid) ]

/-- The command a byte written to `CMD` selects; `none` for the 238 illegal codes (R63: "unassigned means illegal"). -/
def commandOf (c : Byte) : Option Instr := commandTable.lookup c

end Sys2Proof
end

