-- ==== Sys2Proof/Config.lean ====
section
/-! DEFINITION. The size parameters of 00_scope.md R4. All are fixed by the spec; none is left open, and the
block has no free value. Constant tables (TKEY, the S-box, the CRC polynomial) stand with the operation that uses them. -/
namespace Sys2Proof.Config

/-- `PARSE_MIN`: the parser's first check, "Require ≥ 11 bytes available" (00_scope.md R4, 90_conflicts.md C4). -/
abbrev parseMin : Nat := 11

/-- `LEN_BIAS`: `ctrl0[4:0] = total_length - 11` (00_scope.md R4, 30_encoding.md R72). -/
abbrev lenBias : Nat := 11

/-- `FRAME_MAX`, also the size of `BUF` (00_scope.md R4). -/
abbrev frameMax : Nat := 32

/-- `PARAMS_MAX`, also the size of `PARAMS` (00_scope.md R4). -/
abbrev paramsMax : Nat := 21

/-- `OVERHEAD_2W`: bytes of a 2W frame that are not parameters (00_scope.md R4, 90_conflicts.md C1). -/
abbrev overhead2W : Nat := 17

/-- `RC_LEN`: the rolling-code field of a 1W frame (00_scope.md R4). -/
abbrev rcLen : Nat := 2

end Sys2Proof.Config
end

