-- ==== Sys2Proof/Machine/State.lean ====
section
/-! DEFINITION. The state of the block (10_state.md), and the reasons a step can stop (there are none). -/
namespace Sys2Proof.Machine

/-- The whole architectural state of the block: the registers of 10_state.md R13 in address order (R11: "There is no
other state"), each under its own name. The 93 reserved addresses hold nothing and have no field.
The last two fields are the MODEL's own, not the block's (log entry 2): the host's transaction list and the
observation of the run (46_config_host.md R178). -/
structure State where
  /-- `0x00`, command register (R17). -/
  cmd : Byte
  /-- `0x01`, flags: bit 0 `INIT`, bit 1 `MATCH`, bit 2 `TRUNC` (R14). -/
  status : Byte
  /-- `0x02`, error code of the last command (R15). -/
  err : Byte
  /-- `0x03`, bit 0 `MODE`, bit 1 `KEYV`, bit 2 `CHALV` (R16). -/
  cfg : Byte
  /-- `0x04`, data-in byte. -/
  din : Byte
  /-- `0x05`, number of valid bytes in `BUF` (R18). -/
  buflen : Byte
  /-- `0x06`, CRC register bits 7:0. -/
  crcl : Byte
  /-- `0x07`, CRC register bits 15:8. -/
  crch : Byte
  /-- `0x08`, IV-checksum accumulator `c1`. -/
  c1 : Byte
  /-- `0x09`, IV-checksum accumulator `c2`. -/
  c2 : Byte
  /-- `0x0A`, frame field ctrl0 (30_encoding.md R73). -/
  ctrl0 : Byte
  /-- `0x0B`, frame field ctrl1 (30_encoding.md R74). -/
  ctrl1 : Byte
  /-- `0x0C..0x0E`, frame field destination address. -/
  dst : Vector Byte 3
  /-- `0x0F..0x11`, frame field source address. -/
  src : Vector Byte 3
  /-- `0x12`, frame field protocol opcode. -/
  opc : Byte
  /-- `0x13`, `params_len` (R19: any byte value). -/
  plen : Byte
  /-- `0x14`, rolling code bits 7:0. -/
  rcl : Byte
  /-- `0x15`, rolling code bits 15:8. -/
  rch : Byte
  /-- `0x16..0x1B`, frame field MAC. -/
  mac : Vector Byte 6
  /-- `0x1C`, frame field CRC bits 7:0. -/
  fcrcl : Byte
  /-- `0x1D`, frame field CRC bits 15:8. -/
  fcrch : Byte
  /-- `0x1E`, `total_length` of the last successful frame command. -/
  tlen : Byte
  /-- `0x20..0x34`, frame field parameters. -/
  params : Vector Byte 21
  /-- `0x40..0x4F`, the system key. -/
  key : Vector Byte 16
  /-- `0x50..0x5F`, AES input block. -/
  ain : Vector Byte 16
  /-- `0x60..0x6F`, AES output block. -/
  aout : Vector Byte 16
  /-- `0x70..0x75`, the 2W challenge. -/
  chal : Vector Byte 6
  /-- `0x76..0x7B`, the MAC the block last computed. -/
  macc : Vector Byte 6
  /-- `0x7C..0x7E`, node address used by KW.1W. -/
  node : Vector Byte 3
  /-- `0x80..0x9F`, the frame buffer. -/
  buf : Vector Byte 32
  /-- `0xA0..0xAF`, key-wrap output. -/
  wkey : Vector Byte 16
  /-- MODEL: the host's transactions not yet taken, next one first (R178, log entry 2). -/
  pending : List HostWord
  /-- MODEL: the bytes `RD` steps have returned, oldest first (R178, log entry 2). -/
  observed : List Byte
  deriving DecidableEq, Repr

/-- The register cells of 10_state.md R13 by name: what the 163 addresses that are not reserved stand for. -/
inductive Reg where
  | cmd | status | err | cfg | din | buflen | crcl | crch | c1 | c2 | ctrl0 | ctrl1
  | dst (i : Fin 3)
  | src (i : Fin 3)
  | opc | plen | rcl | rch
  | mac (i : Fin 6)
  | fcrcl | fcrch | tlen
  | params (i : Fin 21)
  | key (i : Fin 16)
  | ain (i : Fin 16)
  | aout (i : Fin 16)
  | chal (i : Fin 6)
  | macc (i : Fin 6)
  | node (i : Fin 3)
  | buf (i : Fin 32)
  | wkey (i : Fin 16)
  deriving DecidableEq, Repr

/-- The error kinds of 60_exceptions.md R180: the block's only exceptions. None of them stops the machine. -/
inductive ErrorKind where
  /-- FRM.PARSE, FRM.VALID: `BUFLEN < 11`; CRC.VFY: `BUFLEN < 2`. -/
  | frameTooShort
  /-- FRM.PARSE, FRM.VALID: the length field says more than 32. -/
  | frameTooLong
  /-- FRM.PARSE, FRM.VALID: buffer shorter than the frame, or fewer than 0 parameters; FRM.SER: the length field
  disagrees. -/
  | lengthFieldMismatch
  /-- FRM.VALID: recomputed CRC differs. -/
  | badCrc
  /-- FRM.VALID: recomputed MAC differs. -/
  | badMac
  /-- 2W computation with `CFG.CHALV = 0`; KW.2W with `CFG.CHALV = 0`. -/
  | challengeRequired
  /-- `PLEN > 21`. -/
  | paramsOverflow
  /-- Never raised by the block: it has no radio port. Its code is reserved. -/
  | radioError
  /-- FRM.* while `STATUS.INIT = 0`. -/
  | notInitialized
  /-- FRM.BUILD, FRM.SER: frame longer than 32; CRC.APP: `BUFLEN > 30`. -/
  | bufferTooSmall
  /-- A write to `CMD` of a byte that is no command code. -/
  | illegalCommand
  deriving DecidableEq, Repr

/-- Why the machine stops with a fault: it never does. "The block has no halt, stop, sleep or trap state and no
command that ends a run; every step terminates" (46_config_host.md R178), "No other exception exists"
(60_exceptions.md R182). So there is no constructor (log entry 10; safe). -/
inductive Fault where
  deriving DecidableEq, Repr

/-- Why a step has no meaning. -/
inductive Refusal where
  /-- An instruction without a meaning yet. Raised by no arm of `exec`: every instruction has its meaning; safe. -/
  | notModelled (mnemonic : String)
  deriving DecidableEq, Repr

/-- The reset event (70_reset_and_hazards.md R200): the registers for which 10_state.md R23 gives a value take it;
those it leaves unspecified ("any value") are those of `free`. Nothing is pending and nothing has been observed. -/
def State.resetFrom (free : State) : State :=
  { free with
    cmd := 0x00, status := 0x00, err := 0x00, cfg := 0x00, din := 0x00, buflen := 0x00, crcl := 0x00, crch := 0x00,
    c1 := 0x00, c2 := 0x00, ctrl0 := 0x00, ctrl1 := 0x00, plen := 0x00, tlen := 0x00, pending := [], observed := [] }

/-- Every register zero, nothing pending, nothing observed. -/
def State.zero : State :=
  { cmd := 0, status := 0, err := 0, cfg := 0, din := 0, buflen := 0, crcl := 0, crch := 0, c1 := 0, c2 := 0,
    ctrl0 := 0, ctrl1 := 0, dst := Vector.replicate 3 0, src := Vector.replicate 3 0, opc := 0, plen := 0, rcl := 0,
    rch := 0, mac := Vector.replicate 6 0, fcrcl := 0, fcrch := 0, tlen := 0, params := Vector.replicate 21 0,
    key := Vector.replicate 16 0, ain := Vector.replicate 16 0, aout := Vector.replicate 16 0,
    chal := Vector.replicate 6 0, macc := Vector.replicate 6 0, node := Vector.replicate 3 0,
    buf := Vector.replicate 32 0, wkey := Vector.replicate 16 0, pending := [], observed := [] }

/-- The machine right after reset (10_state.md R23, 70_reset_and_hazards.md R201), with the registers the spec leaves
unspecified at 0. DESIGN CHOICE (log entry 1, unsafe): R23 gives those registers no value; statements about reset
quantify over `State.resetFrom` or `State.IsReset` instead of resting on these zeros. -/
def State.reset : State := State.resetFrom State.zero

end Sys2Proof.Machine
end

