-- ==== Sys2Proof/Machine/Flags.lean ====
section
/-! DEFINITION. The bits of `STATUS` and `CFG`, and how a command writes them (10_state.md R14, R16). -/
namespace Sys2Proof.Machine

/-- Byte `b` with bit `k` made `v` and every other bit kept. -/
def withBit (b : Byte) (k : Nat) (v : Bool) : Byte :=
  if v then b ||| (1#8 <<< k) else b &&& ~~~(1#8 <<< k)

/-- `STATUS.INIT`, bit 0 (R14). -/
def State.initFlag (s : State) : Bool := s.status.getLsbD 0

/-- `STATUS.MATCH`, bit 1 (R14). -/
def State.matchFlag (s : State) : Bool := s.status.getLsbD 1

/-- `STATUS.TRUNC`, bit 2 (R14). -/
def State.truncFlag (s : State) : Bool := s.status.getLsbD 2

/-- `CFG.MODE`, bit 0: true = 2W (R16). -/
def State.cfgMode (s : State) : Bool := s.cfg.getLsbD 0

/-- `CFG.KEYV`, bit 1 (R16). -/
def State.cfgKeyv (s : State) : Bool := s.cfg.getLsbD 1

/-- `CFG.CHALV`, bit 2 (R16). -/
def State.cfgChalv (s : State) : Bool := s.cfg.getLsbD 2

/-- `STATUS.INIT <- v`. Only `CFG.INIT` does it (R14, 46_config_host.md R170). -/
def State.setInit (v : Bool) (s : State) : State := { s with status := withBit s.status 0 v }

/-- `STATUS.MATCH <- v`; bits 7:3 are "never written" (R14). -/
def State.setMatch (v : Bool) (s : State) : State := { s with status := withBit s.status 1 v }

/-- `STATUS.TRUNC <- v`. -/
def State.setTrunc (v : Bool) (s : State) : State := { s with status := withBit s.status 2 v }

end Sys2Proof.Machine
end

