-- ==== Sys2Proof/Machine/Ops.lean ====
section
/-! DEFINITION. The shared operations: byte strings, register access by name and by address, `done` and `raise`. -/
namespace Sys2Proof.Machine

/-! ### Byte strings and 16-bit values (00_scope.md R8, R9) -/

/-- The low byte, `v & 0xFF`. -/
def loByte (v : Half) : Byte := v.setWidth 8

/-- The high byte, `v >> 8`. -/
def hiByte (v : Half) : Byte := (v >>> 8).setWidth 8

/-- `from_le16(lo, hi) = lo | (hi << 8)` (R8). -/
def fromLe16 (lo hi : Byte) : Half := lo.setWidth 16 ||| (hi.setWidth 16 <<< 8)

/-- `le16(v)`: low byte first (R8). -/
def le16 (v : Half) : List Byte := [loByte v, hiByte v]

/-- The array with `bytes` written from index `off` on, element by element; every other element is kept, and a byte
that would fall outside the array is not written (no rule ever indexes outside an array: 20_memory.md R40). -/
def patch {n : Nat} (v : Vector Byte n) (off : Nat) (bytes : List Byte) : Vector Byte n :=
  Vector.ofFn fun i : Fin n => if off ≤ i.val then (bytes[i.val - off]?).getD v[i] else v[i]

/-- Element `i` of an array, 0 beyond its end (which no rule reads in a state that can occur: 20_memory.md R40,
46_config_host.md R177; log entry 11). -/
def byteAt {n : Nat} (v : Vector Byte n) (i : Nat) : Byte := v.toList.getD i 0

/-! ### The 16-bit register pairs (00_scope.md R9, 20_memory.md R43) -/

/-- `CRC = CRCL | (CRCH << 8)`. -/
def State.crc (s : State) : Half := fromLe16 s.crcl s.crch

/-- `RC = RCL | (RCH << 8)`. -/
def State.rc (s : State) : Half := fromLe16 s.rcl s.rch

/-- `FCRC = FCRCL | (FCRCH << 8)`. -/
def State.fcrc (s : State) : Half := fromLe16 s.fcrcl s.fcrch

/-- `CRC <- v`. -/
def State.setCrc (v : Half) (s : State) : State := { s with crcl := loByte v, crch := hiByte v }

/-- `FCRC <- v`. -/
def State.setFcrc (v : Half) (s : State) : State := { s with fcrcl := loByte v, fcrch := hiByte v }

/-- `CMD <- c`: a command issue stores its byte before the command runs (10_state.md R17). -/
def State.setCmd (c : Byte) (s : State) : State := { s with cmd := c }

/-- `ERR <- e`. -/
def State.setErr (e : Byte) (s : State) : State := { s with err := e }

/-! ### The host's side (46_config_host.md R178, log entry 2) -/

/-- The host issues the words in list order and nothing else (46_config_host.md R178). -/
def State.withHostList (s : State) (words : List HostWord) : State := { s with pending := words }

/-- A byte is returned to the host: the observation grows by it (46_config_host.md R178). -/
def State.observe (b : Byte) (s : State) : State := { s with observed := s.observed ++ [b] }

/-- What the host's writes of all sixteen key bytes leave. -/
def State.withKey (s : State) (key : Vector Byte 16) : State := { s with key := key }

/-- What the host's writes of all six challenge bytes leave. -/
def State.withChal (s : State) (chal : Vector Byte 6) : State := { s with chal := chal }

/-- What the host's write of `CFG` leaves, the byte stored being `c`. -/
def State.withCfg (s : State) (c : Byte) : State := { s with cfg := c }

/-- What the host's writes of the whole of `BUF` leave. -/
def State.withBuf (s : State) (buf : Vector Byte 32) : State := { s with buf := buf }

/-! ### Registers by name -/

/-- The byte a register cell holds. -/
def State.get (s : State) (r : Reg) : Byte :=
  match r with
  | .cmd => s.cmd
  | .status => s.status
  | .err => s.err
  | .cfg => s.cfg
  | .din => s.din
  | .buflen => s.buflen
  | .crcl => s.crcl
  | .crch => s.crch
  | .c1 => s.c1
  | .c2 => s.c2
  | .ctrl0 => s.ctrl0
  | .ctrl1 => s.ctrl1
  | .dst i => s.dst[i]
  | .src i => s.src[i]
  | .opc => s.opc
  | .plen => s.plen
  | .rcl => s.rcl
  | .rch => s.rch
  | .mac i => s.mac[i]
  | .fcrcl => s.fcrcl
  | .fcrch => s.fcrch
  | .tlen => s.tlen
  | .params i => s.params[i]
  | .key i => s.key[i]
  | .ain i => s.ain[i]
  | .aout i => s.aout[i]
  | .chal i => s.chal[i]
  | .macc i => s.macc[i]
  | .node i => s.node[i]
  | .buf i => s.buf[i]
  | .wkey i => s.wkey[i]

/-- The state with one register cell holding `v`. -/
def State.set (s : State) (r : Reg) (v : Byte) : State :=
  match r with
  | .cmd => { s with cmd := v }
  | .status => { s with status := v }
  | .err => { s with err := v }
  | .cfg => { s with cfg := v }
  | .din => { s with din := v }
  | .buflen => { s with buflen := v }
  | .crcl => { s with crcl := v }
  | .crch => { s with crch := v }
  | .c1 => { s with c1 := v }
  | .c2 => { s with c2 := v }
  | .ctrl0 => { s with ctrl0 := v }
  | .ctrl1 => { s with ctrl1 := v }
  | .dst i => { s with dst := s.dst.set i v }
  | .src i => { s with src := s.src.set i v }
  | .opc => { s with opc := v }
  | .plen => { s with plen := v }
  | .rcl => { s with rcl := v }
  | .rch => { s with rch := v }
  | .mac i => { s with mac := s.mac.set i v }
  | .fcrcl => { s with fcrcl := v }
  | .fcrch => { s with fcrch := v }
  | .tlen => { s with tlen := v }
  | .params i => { s with params := s.params.set i v }
  | .key i => { s with key := s.key.set i v }
  | .ain i => { s with ain := s.ain.set i v }
  | .aout i => { s with aout := s.aout.set i v }
  | .chal i => { s with chal := s.chal.set i v }
  | .macc i => { s with macc := s.macc.set i v }
  | .node i => { s with node := s.node.set i v }
  | .buf i => { s with buf := s.buf.set i v }
  | .wkey i => { s with wkey := s.wkey.set i v }

/-! ### Registers by address (10_state.md R13) -/

/-- One row of the register map: `size` cells from address `base` on, or nothing at address `n`. -/
def mapRow (base size : Nat) (cell : Fin size → Reg) (n : Nat) : Option Reg :=
  if h : base ≤ n ∧ n < base + size then some (cell ⟨n - base, by omega⟩) else none

/-- The register map of R13, row by row. -/
def registerMap : List (Nat → Option Reg) :=
  [ mapRow 0x00 1 fun _ => .cmd,
    mapRow 0x01 1 fun _ => .status,
    mapRow 0x02 1 fun _ => .err,
    mapRow 0x03 1 fun _ => .cfg,
    mapRow 0x04 1 fun _ => .din,
    mapRow 0x05 1 fun _ => .buflen,
    mapRow 0x06 1 fun _ => .crcl,
    mapRow 0x07 1 fun _ => .crch,
    mapRow 0x08 1 fun _ => .c1,
    mapRow 0x09 1 fun _ => .c2,
    mapRow 0x0A 1 fun _ => .ctrl0,
    mapRow 0x0B 1 fun _ => .ctrl1,
    mapRow 0x0C 3 .dst,
    mapRow 0x0F 3 .src,
    mapRow 0x12 1 fun _ => .opc,
    mapRow 0x13 1 fun _ => .plen,
    mapRow 0x14 1 fun _ => .rcl,
    mapRow 0x15 1 fun _ => .rch,
    mapRow 0x16 6 .mac,
    mapRow 0x1C 1 fun _ => .fcrcl,
    mapRow 0x1D 1 fun _ => .fcrch,
    mapRow 0x1E 1 fun _ => .tlen,
    mapRow 0x20 21 .params,
    mapRow 0x40 16 .key,
    mapRow 0x50 16 .ain,
    mapRow 0x60 16 .aout,
    mapRow 0x70 6 .chal,
    mapRow 0x76 6 .macc,
    mapRow 0x7C 3 .node,
    mapRow 0x80 32 .buf,
    mapRow 0xA0 16 .wkey ]

/-- The register at an address; `none` at the reserved addresses (R13, 20_memory.md R41). -/
def regAt (a : Byte) : Option Reg := registerMap.findSome? fun row => row a.toNat

/-- The address of a register (R13). -/
def addrOf (r : Reg) : Byte :=
  match r with
  | .cmd => 0x00
  | .status => 0x01
  | .err => 0x02
  | .cfg => 0x03
  | .din => 0x04
  | .buflen => 0x05
  | .crcl => 0x06
  | .crch => 0x07
  | .c1 => 0x08
  | .c2 => 0x09
  | .ctrl0 => 0x0A
  | .ctrl1 => 0x0B
  | .dst i => BitVec.ofNat 8 (0x0C + i)
  | .src i => BitVec.ofNat 8 (0x0F + i)
  | .opc => 0x12
  | .plen => 0x13
  | .rcl => 0x14
  | .rch => 0x15
  | .mac i => BitVec.ofNat 8 (0x16 + i)
  | .fcrcl => 0x1C
  | .fcrch => 0x1D
  | .tlen => 0x1E
  | .params i => BitVec.ofNat 8 (0x20 + i)
  | .key i => BitVec.ofNat 8 (0x40 + i)
  | .ain i => BitVec.ofNat 8 (0x50 + i)
  | .aout i => BitVec.ofNat 8 (0x60 + i)
  | .chal i => BitVec.ofNat 8 (0x70 + i)
  | .macc i => BitVec.ofNat 8 (0x76 + i)
  | .node i => BitVec.ofNat 8 (0x7C + i)
  | .buf i => BitVec.ofNat 8 (0x80 + i)
  | .wkey i => BitVec.ofNat 8 (0xA0 + i)

/-- What a host read of an address returns: the register there, `0x00` at a reserved address (46_config_host.md R172,
20_memory.md R41). -/
def State.readAt (s : State) (a : Byte) : Byte :=
  match regAt a with
  | none => 0x00
  | some r => s.get r

/-- `min(v, 32)`, what a host write stores in `BUFLEN` (10_state.md R18). -/
def saturate32 (v : Byte) : Byte := if v.toNat ≤ 32 then v else 32#8

/-- A host write that starts no command (46_config_host.md R171, 20_memory.md R46): `STATUS`, `ERR`, `TLEN` and
reserved addresses ignore it, `CFG` keeps bits 2:0, `BUFLEN` saturates, any other register takes the byte. -/
def State.writeAt (s : State) (a v : Byte) : State :=
  match regAt a with
  | none => s
  | some .status => s
  | some .err => s
  | some .tlen => s
  | some .cfg => s.set .cfg (v &&& 0x07)
  | some .buflen => s.set .buflen (saturate32 v)
  | some r => s.set r v

/-! ### Completing and raising (60_exceptions.md R180, R183, R184) -/

/-- The code of an error kind in `ERR` (R180). -/
def errorCode (k : ErrorKind) : Byte :=
  match k with
  | .frameTooShort => 0x01
  | .frameTooLong => 0x02
  | .lengthFieldMismatch => 0x03
  | .badCrc => 0x04
  | .badMac => 0x05
  | .challengeRequired => 0x06
  | .paramsOverflow => 0x07
  | .radioError => 0x08
  | .notInitialized => 0x09
  | .bufferTooSmall => 0x0A
  | .illegalCommand => 0x0B

/-- `done`: `ERR <- 0x00`, the last action of a command that completes (R183). -/
def complete (s : State) : State := s.setErr 0x00

/-- `STATUS.MATCH <- 0 ; STATUS.TRUNC <- 0 ; done`, how every command without a result ends. -/
def completePlain (s : State) : State := complete ((s.setMatch false).setTrunc false)

/-- `raise E(kind)`: TAKING AN EXCEPTION. `ERR <- code(kind)`, `STATUS.MATCH <- 0`, `STATUS.TRUNC <- 0`, and nothing
else: no jump, no mode or mask change, no saved register (R184). There is no return from one: "the next host
transaction is taken as after any command". -/
def raise (k : ErrorKind) (s : State) : State := ((s.setErr (errorCode k)).setMatch false).setTrunc false

/-- `raise E(kind) keeping STATUS.TRUNC`: the three late failures of FRM.VALID (R184, 45_frame_codec.md R157). -/
def raiseKeepTrunc (k : ErrorKind) (s : State) : State := (s.setErr (errorCode k)).setMatch false

end Sys2Proof.Machine
end

