-- ==== Sys2Proof/Machine/Operands.lean ====
section
/-! DEFINITION. The operands commands take from registers (30_encoding.md R65, R66): lengths, byte strings, the mode
and length field of a ctrl0 byte. -/
namespace Sys2Proof.Machine

/-- `BUF[0..n-1]`. -/
def State.bufBytes (s : State) (n : Nat) : List Byte := s.buf.toList.take n

/-- `PARAMS[0..PLEN-1]`; all 21 bytes where `PLEN` is above 21, which no command reads (log entry 11; in the frame value a
DESIGN CHOICE, log entry 15). -/
def State.paramBytes (s : State) : List Byte := s.params.toList.take s.plen.toNat

/-- The payload `P = opcode ∥ params` (43_iv_builder.md R135). -/
def State.payload (s : State) : List Byte := s.opc :: s.paramBytes

/-- Bit 5 of a ctrl0 byte, `M2W`: true = 2W (30_encoding.md R71, R73). -/
def modeOf (ctrl0 : Byte) : Bool := ctrl0.getLsbD 5

/-- Bits 4:0 of a ctrl0 byte, `LEN` (30_encoding.md R72, R73). -/
def lengthFieldOf (ctrl0 : Byte) : Nat := (ctrl0 &&& 0x1F).toNat

/-- `r = (m2w ? 0 : 2)`, the length of the rolling-code field (30_encoding.md R70, R71). -/
def rcFieldLen (m2w : Bool) : Nat := if m2w then 0 else Config.rcLen

/-- `tl = 17 + p + r` (30_encoding.md R72). -/
def totalLength (m2w : Bool) (plen : Nat) : Nat := Config.overhead2W + plen + rcFieldLen m2w

/-- The total length a ctrl0 byte states: `ctrl0[4:0] + 11` (30_encoding.md R72, R75). -/
def statedLength (ctrl0 : Byte) : Nat := lengthFieldOf ctrl0 + Config.lenBias

/-- The parameter length a ctrl0 byte states: `tl - 17 - r` (45_frame_codec.md R155). -/
def statedParams (ctrl0 : Byte) : Nat := statedLength ctrl0 - totalLength (modeOf ctrl0) 0

/-- The ctrl0 byte FRM.BUILD writes: `(m2w << 5) | (tl - 11)`, bits 7:6 zero (45_frame_codec.md R150). -/
def builtCtrl0 (m2w : Bool) (tl : Nat) : Byte :=
  ((BitVec.ofBool m2w).setWidth 8 <<< 5) ||| BitVec.ofNat 8 (tl - Config.lenBias)

end Sys2Proof.Machine
end

