-- ==== Sys2Proof/Machine/Crc.lean ====
section
/-! DEFINITION. The CRC-16/KERMIT generator (40_crc.md). -/
namespace Sys2Proof.Machine

/-- `CRC_POLY`, the reflected polynomial (00_scope.md R4). -/
def crcPoly : Half := 0x8408

/-- `CRC_INIT` (00_scope.md R4). -/
def crcInitValue : Half := 0x0000

/-- One of the eight iterations of R100; the test is on the value before the shift. -/
def crcShift (crc : Half) : Half := if crc.getLsbD 0 then (crc >>> 1) ^^^ crcPoly else crc >>> 1

/-- `n` iterations of `crcShift`. -/
def crcShifts : Nat → Half → Half
  | 0, crc => crc
  | n + 1, crc => crcShifts n (crcShift crc)

/-- `crc_byte(crc, b)` (R100): the byte enters the low 8 bits, then eight iterations. -/
def crcByte (crc : Half) (b : Byte) : Half := crcShifts 8 (crc ^^^ b.setWidth 16)

/-- `crc16(s)` (R101): no final XOR. -/
def crc16 (bytes : List Byte) : Half := bytes.foldl crcByte crcInitValue

/-- The body of CRC.INIT (R102). -/
def crcInit (s : State) : State := completePlain (s.setCrc crcInitValue)

/-- The body of CRC.UPD (R103): `CRC` is not initialised first. -/
def crcUpd (s : State) : State := completePlain (s.setCrc (crcByte s.crc s.din))

/-- The body of CRC.BUF (R104). -/
def crcBuf (s : State) : State := completePlain (s.setCrc (crc16 (s.bufBytes s.buflen.toNat)))

/-- The body of CRC.VFY (R105): a mismatch is a result, not an error. -/
def crcVfy (s : State) : State :=
  let n := s.buflen.toNat
  if n < 2 then raise .frameTooShort s
  else
    let c := crc16 (s.bufBytes (n - 2))
    complete (((s.setCrc c).setMatch (c == fromLe16 (byteAt s.buf (n - 2)) (byteAt s.buf (n - 1)))).setTrunc false)

/-- The body of CRC.APP (R106). -/
def crcApp (s : State) : State :=
  let n := s.buflen.toNat
  if n > 30 then raise .bufferTooSmall s
  else
    let c := crc16 (s.bufBytes n)
    completePlain { s.setCrc c with buf := patch s.buf n (le16 c), buflen := BitVec.ofNat 8 (n + 2) }

/-- CRC.INIT, code `0x90` (R102). -/
def execCrcInit (s : State) : Host.Outcome State Fault Refusal := .next (crcInit (s.setCmd 0x90))

/-- CRC.UPD, code `0x91` (R103). -/
def execCrcUpd (s : State) : Host.Outcome State Fault Refusal := .next (crcUpd (s.setCmd 0x91))

/-- CRC.BUF, code `0x92` (R104). -/
def execCrcBuf (s : State) : Host.Outcome State Fault Refusal := .next (crcBuf (s.setCmd 0x92))

/-- CRC.VFY, code `0x93` (R105). -/
def execCrcVfy (s : State) : Host.Outcome State Fault Refusal := .next (crcVfy (s.setCmd 0x93))

/-- CRC.APP, code `0x94` (R106). -/
def execCrcApp (s : State) : Host.Outcome State Fault Refusal := .next (crcApp (s.setCmd 0x94))

end Sys2Proof.Machine
end

