-- ==== Sys2Proof/Machine/Aes.lean ====
section
/-! DEFINITION. The AES-128 core, forward cipher of one block (42_aes.md). -/
namespace Sys2Proof.Machine

/-- A 16-byte block. As a cipher state it is the column-major listing of R121: `s[r][c]` is element `r + 4c`. -/
abbrev Block := Vector Byte 16

/-- A 4-byte word of the key schedule (R124). -/
abbrev KeyWord := Byte × Byte × Byte × Byte

/-- `xtime(a)`: multiplication by `x` modulo `0x11B` (R122). -/
def xtime (a : Byte) : Byte :=
  let t : BitVec 9 := a.setWidth 9 <<< 1
  (if t.getLsbD 8 then t ^^^ 0x11B#9 else t).setWidth 8

/-- `a ⊗ 0x03 = xtime(a) ^ a` (R122). -/
def times3 (a : Byte) : Byte := xtime a ^^^ a

/-- The S-box, row by row as R123 prints it. -/
def sboxTable : List (List Byte) :=
  [ [0x63, 0x7C, 0x77, 0x7B, 0xF2, 0x6B, 0x6F, 0xC5, 0x30, 0x01, 0x67, 0x2B, 0xFE, 0xD7, 0xAB, 0x76],
    [0xCA, 0x82, 0xC9, 0x7D, 0xFA, 0x59, 0x47, 0xF0, 0xAD, 0xD4, 0xA2, 0xAF, 0x9C, 0xA4, 0x72, 0xC0],
    [0xB7, 0xFD, 0x93, 0x26, 0x36, 0x3F, 0xF7, 0xCC, 0x34, 0xA5, 0xE5, 0xF1, 0x71, 0xD8, 0x31, 0x15],
    [0x04, 0xC7, 0x23, 0xC3, 0x18, 0x96, 0x05, 0x9A, 0x07, 0x12, 0x80, 0xE2, 0xEB, 0x27, 0xB2, 0x75],
    [0x09, 0x83, 0x2C, 0x1A, 0x1B, 0x6E, 0x5A, 0xA0, 0x52, 0x3B, 0xD6, 0xB3, 0x29, 0xE3, 0x2F, 0x84],
    [0x53, 0xD1, 0x00, 0xED, 0x20, 0xFC, 0xB1, 0x5B, 0x6A, 0xCB, 0xBE, 0x39, 0x4A, 0x4C, 0x58, 0xCF],
    [0xD0, 0xEF, 0xAA, 0xFB, 0x43, 0x4D, 0x33, 0x85, 0x45, 0xF9, 0x02, 0x7F, 0x50, 0x3C, 0x9F, 0xA8],
    [0x51, 0xA3, 0x40, 0x8F, 0x92, 0x9D, 0x38, 0xF5, 0xBC, 0xB6, 0xDA, 0x21, 0x10, 0xFF, 0xF3, 0xD2],
    [0xCD, 0x0C, 0x13, 0xEC, 0x5F, 0x97, 0x44, 0x17, 0xC4, 0xA7, 0x7E, 0x3D, 0x64, 0x5D, 0x19, 0x73],
    [0x60, 0x81, 0x4F, 0xDC, 0x22, 0x2A, 0x90, 0x88, 0x46, 0xEE, 0xB8, 0x14, 0xDE, 0x5E, 0x0B, 0xDB],
    [0xE0, 0x32, 0x3A, 0x0A, 0x49, 0x06, 0x24, 0x5C, 0xC2, 0xD3, 0xAC, 0x62, 0x91, 0x95, 0xE4, 0x79],
    [0xE7, 0xC8, 0x37, 0x6D, 0x8D, 0xD5, 0x4E, 0xA9, 0x6C, 0x56, 0xF4, 0xEA, 0x65, 0x7A, 0xAE, 0x08],
    [0xBA, 0x78, 0x25, 0x2E, 0x1C, 0xA6, 0xB4, 0xC6, 0xE8, 0xDD, 0x74, 0x1F, 0x4B, 0xBD, 0x8B, 0x8A],
    [0x70, 0x3E, 0xB5, 0x66, 0x48, 0x03, 0xF6, 0x0E, 0x61, 0x35, 0x57, 0xB9, 0x86, 0xC1, 0x1D, 0x9E],
    [0xE1, 0xF8, 0x98, 0x11, 0x69, 0xD9, 0x8E, 0x94, 0x9B, 0x1E, 0x87, 0xE9, 0xCE, 0x55, 0x28, 0xDF],
    [0x8C, 0xA1, 0x89, 0x0D, 0xBF, 0xE6, 0x42, 0x68, 0x41, 0x99, 0x2D, 0x0F, 0xB0, 0x54, 0xBB, 0x16] ]

/-- `SBOX[0xRC]` is the entry in row `R`, column `C` (R123). -/
def sbox (x : Byte) : Byte := (sboxTable.getD (x.toNat / 16) []).getD (x.toNat % 16) 0

/-- `RCON[1..10]` (R124). -/
def rconTable : List Byte := [0x01, 0x02, 0x04, 0x08, 0x10, 0x20, 0x40, 0x80, 0x1B, 0x36]

/-- `RCON[j]`, `j = 1..10` (R124). -/
def rcon (j : Nat) : Byte := rconTable.getD (j - 1) 0

/-- Byte-wise exclusive or of two words. -/
def xorWord (a b : KeyWord) : KeyWord := (a.1 ^^^ b.1, a.2.1 ^^^ b.2.1, a.2.2.1 ^^^ b.2.2.1, a.2.2.2 ^^^ b.2.2.2)

/-- RotWord, SubWord and the round constant, for `i mod 4 = 0` (R124). -/
def scheduleCore (j : Nat) (t : KeyWord) : KeyWord :=
  (sbox t.2.1 ^^^ rcon j, sbox t.2.2.1, sbox t.2.2.2, sbox t.1)

/-- Append word `w[i]` to the words `w[0..i-1]` (R124). -/
def scheduleStep (ws : List KeyWord) (i : Nat) : List KeyWord :=
  let t := ws.getD (i - 1) (0, 0, 0, 0)
  let t := if i % 4 = 0 then scheduleCore (i / 4) t else t
  ws ++ [xorWord (ws.getD (i - 4) (0, 0, 0, 0)) t]

/-- The 44 words of the key schedule (R124). -/
def keyWords (key : Block) : List KeyWord :=
  (List.range' 4 40).foldl scheduleStep
    [ (key[0], key[1], key[2], key[3]), (key[4], key[5], key[6], key[7]),
      (key[8], key[9], key[10], key[11]), (key[12], key[13], key[14], key[15]) ]

/-- Byte `r` of a word. -/
def wordByte (w : KeyWord) (r : Nat) : Byte :=
  match r with
  | 0 => w.1
  | 1 => w.2.1
  | 2 => w.2.2.1
  | _ => w.2.2.2

/-- `rk[k] = w[4k] ∥ w[4k+1] ∥ w[4k+2] ∥ w[4k+3]` (R124). -/
def roundKey (ws : List KeyWord) (k : Nat) : Block :=
  Vector.ofFn fun i : Fin 16 => wordByte (ws.getD (4 * k + i.val / 4) (0, 0, 0, 0)) (i.val % 4)

/-- `AddRoundKey` (R125). -/
def addRoundKey (s rk : Block) : Block := Vector.ofFn fun i : Fin 16 => s[i] ^^^ rk[i]

/-- `SubBytes` (R126). -/
def subBytes (s : Block) : Block := s.map sbox

/-- `ShiftRows`: `s'[r][c] = s[r][(c + r) mod 4]` (R127). -/
def shiftRows (s : Block) : Block :=
  Vector.ofFn fun i : Fin 16 => s[(i.val % 4) + 4 * ((i.val / 4 + i.val % 4) % 4)]

/-- Row `r` of the column that replaces `(a0, a1, a2, a3)` (R128). -/
def mixRow (r : Nat) (a0 a1 a2 a3 : Byte) : Byte :=
  match r with
  | 0 => xtime a0 ^^^ times3 a1 ^^^ a2 ^^^ a3
  | 1 => a0 ^^^ xtime a1 ^^^ times3 a2 ^^^ a3
  | 2 => a0 ^^^ a1 ^^^ xtime a2 ^^^ times3 a3
  | _ => times3 a0 ^^^ a1 ^^^ a2 ^^^ xtime a3

/-- `MixColumns` (R128). -/
def mixColumns (s : Block) : Block :=
  Vector.ofFn fun i : Fin 16 =>
    let c := 4 * (i.val / 4)
    mixRow (i.val % 4) s[c] s[c + 1] s[c + 2] s[c + 3]

/-- Round `k` of rounds 1 to 9 (R129). -/
def aesRound (ws : List KeyWord) (s : Block) (k : Nat) : Block :=
  addRoundKey (mixColumns (shiftRows (subBytes s))) (roundKey ws k)

/-- `AES128(key, in)` (R129). -/
def aes128 (key input : Block) : Block :=
  let ws := keyWords key
  let s := addRoundKey input (roundKey ws 0)
  let s := (List.range' 1 9).foldl (aesRound ws) s
  addRoundKey (shiftRows (subBytes s)) (roundKey ws 10)

/-- The body of AES.ENC (R131): `AOUT <- AES128(KEY, AIN)`. -/
def aesEnc (s : State) : State := completePlain { s with aout := aes128 s.key s.ain }

/-- AES.ENC, code `0xB0` (R131). -/
def execAesEnc (s : State) : Host.Outcome State Fault Refusal := .next (aesEnc (s.setCmd 0xB0))

end Sys2Proof.Machine
end

