-- ==== Sys2Proof/Machine/IvChecksum.lean ====
section
/-! DEFINITION. The IV checksum (41_iv_checksum.md). -/
namespace Sys2Proof.Machine

/-- `IVCK_X1`, XORed into `c1` in the second branch (00_scope.md R4). -/
def ivckX1 : Byte := 0x55

/-- `IVCK_X2`, XORed into `c2` in the second branch (00_scope.md R4). -/
def ivckX2 : Byte := 0x5B

/-- `ivck_byte(c1, c2, b)` (R110). `t` and the carry are taken from the accumulators as they were on entry; shifts
drop bit 7. -/
def ivckByte (acc : Byte × Byte) (b : Byte) : Byte × Byte :=
  let t := b ^^^ acc.2
  let carry := acc.1.getLsbD 7
  let shifted := (acc.1 <<< 1) ||| (if t.toNat ≥ 128 then 1#8 else 0#8)
  if carry then (shifted ^^^ ivckX1, (t <<< 1) ^^^ ivckX2) else (shifted, t <<< 1)

/-- `ivck(s)` (R111), from `(0x00, 0x00)`. -/
def ivck (bytes : List Byte) : Byte × Byte := bytes.foldl ivckByte (0x00, 0x00)

/-- The body of IVC.INIT (R112). -/
def ivcInit (s : State) : State := completePlain { s with c1 := 0x00, c2 := 0x00 }

/-- The body of IVC.UPD (R113): the accumulators are not initialised first. -/
def ivcUpd (s : State) : State :=
  let acc := ivckByte (s.c1, s.c2) s.din
  completePlain { s with c1 := acc.1, c2 := acc.2 }

/-- IVC.INIT, code `0xA0` (R112). -/
def execIvcInit (s : State) : Host.Outcome State Fault Refusal := .next (ivcInit (s.setCmd 0xA0))

/-- IVC.UPD, code `0xA1` (R113). -/
def execIvcUpd (s : State) : Host.Outcome State Fault Refusal := .next (ivcUpd (s.setCmd 0xA1))

end Sys2Proof.Machine
end

