-- ==== Sys2Proof/Machine/IvBuilder.lean ====
section
/-! DEFINITION. The IV builder (43_iv_builder.md). -/
namespace Sys2Proof.Machine

/-- `PAD`, the padding byte of the IV (00_scope.md R4). -/
def ivPad : Byte := 0x55

/-- `iv(m2w, opc, params, rc, chal)` (R135), `payload` being `opc ∥ params`. -/
def iv (m2w : Bool) (payload : List Byte) (rc : Half) (chal : Vector Byte 6) : Vector Byte 16 :=
  let c := ivck payload
  Vector.ofFn fun i : Fin 16 =>
    if i.val < 8 then payload.getD i.val ivPad
    else if i.val = 8 then c.1
    else if i.val = 9 then c.2
    else if m2w then byteAt chal (i.val - 10)
    else if i.val = 10 then loByte rc
    else if i.val = 11 then hiByte rc
    else ivPad

/-- The IV stage: `AIN <- iv(...)`, `C1 <- AIN[8]`, `C2 <- AIN[9]` (R136, 45_frame_codec.md R150, R157). -/
def ivStage (m2w : Bool) (s : State) : State :=
  let block := iv m2w s.payload s.rc s.chal
  { s with ain := block, c1 := block[8], c2 := block[9] }

/-- The tests of IV.BUILD, in order (R136, 60_exceptions.md R186): the error it raises, if any. -/
def ivError (s : State) : Option ErrorKind :=
  if s.plen.toNat > Config.paramsMax then some .paramsOverflow
  else if s.cfgMode && !s.cfgChalv then some .challengeRequired
  else none

/-- The body of IV.BUILD (R136). -/
def ivBuild (s : State) : State :=
  match ivError s with
  | some k => raise k s
  | none => completePlain (ivStage s.cfgMode s)

/-- IV.BUILD, code `0xC0` (R136). -/
def execIvBuild (s : State) : Host.Outcome State Fault Refusal := .next (ivBuild (s.setCmd 0xC0))

end Sys2Proof.Machine
end

