-- ==== Sys2Proof/Machine/MacWrap.lean ====
section
/-! DEFINITION. The truncated MAC with constant-time verify, and key wrap (44_mac_keywrap.md). -/
namespace Sys2Proof.Machine

/-! ### MAC -/

/-- The first six bytes of a ciphertext, in order (R140). -/
def macOf (block : Vector Byte 16) : Vector Byte 6 := Vector.ofFn fun j : Fin 6 => byteAt block j.val

/-- `AOUT <- AES128(KEY, AIN)`, `MACC <- AOUT[0..5]` (R141). -/
def cipherStage (s : State) : State :=
  let out := aes128 s.key s.ain
  { s with aout := out, macc := macOf out }

/-- The MAC computation in mode `m2w`: the IV, the cipher, the truncation (R141). -/
def macStage (m2w : Bool) (s : State) : State := cipherStage (ivStage m2w s)

/-- `ct_eq6(a, b)` (R142): all six byte pairs enter the accumulator, in order, and the only data-dependent decision
is the one test of it afterwards. -/
def ctEq6 (a b : Vector Byte 6) : Bool :=
  ((List.finRange 6).foldl (fun (d : Byte) (i : Fin 6) => d ||| (a[i] ^^^ b[i])) 0x00) == 0x00

/-- The body of MAC.GEN (R141); `CFG.KEYV` is not consulted. -/
def macGen (s : State) : State :=
  match ivError s with
  | some k => raise k s
  | none => completePlain (macStage s.cfgMode s)

/-- The body of MAC.VFY (R143): a MAC that differs is a result, not an error. -/
def macVfy (s : State) : State :=
  match ivError s with
  | some k => raise k s
  | none =>
    let m := macStage s.cfgMode s
    complete ((m.setMatch (ctEq6 m.macc m.mac)).setTrunc false)

/-! ### Key wrap -/

/-- `TKEY`, the transfer key (00_scope.md R4, R144). -/
def transferKey : Vector Byte 16 :=
  #v[0x34, 0xC3, 0x46, 0x6E, 0xD8, 0x8F, 0x4E, 0x8E, 0x16, 0xAA, 0x47, 0x39, 0x49, 0x88, 0x43, 0x73]

/-- `kw_iv_1w(node)` (R144): `IV[i] <- node[i mod 3]`. -/
def kwIv1W (node : Vector Byte 3) : Vector Byte 16 := Vector.ofFn fun i : Fin 16 => byteAt node (i.val % 3)

/-- `kw_iv_2w(chal)` (R144): ten bytes `0x55`, then the challenge. -/
def kwIv2W (chal : Vector Byte 6) : Vector Byte 16 :=
  Vector.ofFn fun i : Fin 16 => if i.val < 10 then ivPad else byteAt chal (i.val - 10)

/-- The sixteen XORs of `wrap`, all performed whatever the data (R144). -/
def xorBlock (a b : Vector Byte 16) : Vector Byte 16 := Vector.ofFn fun i : Fin 16 => a[i] ^^^ b[i]

/-- `AIN <- IV`, `AOUT <- AES128(TKEY, AIN)`, `WKEY[i] <- KEY[i] ^ AOUT[i]` (R145, R146). -/
def wrapStage (block : Vector Byte 16) (s : State) : State :=
  let mask := aes128 transferKey block
  { s with ain := block, aout := mask, wkey := xorBlock s.key mask }

/-- The body of KW.1W (R145). -/
def kw1W (s : State) : State := completePlain (wrapStage (kwIv1W s.node) s)

/-- The body of KW.2W (R146); `CFG.MODE` is not consulted. -/
def kw2W (s : State) : State :=
  if s.cfgChalv then completePlain (wrapStage (kwIv2W s.chal) s) else raise .challengeRequired s

/-- MAC.GEN, code `0xD0` (R141). -/
def execMacGen (s : State) : Host.Outcome State Fault Refusal := .next (macGen (s.setCmd 0xD0))

/-- MAC.VFY, code `0xD1` (R143). -/
def execMacVfy (s : State) : Host.Outcome State Fault Refusal := .next (macVfy (s.setCmd 0xD1))

/-- KW.1W, code `0xE0` (R145). -/
def execKw1W (s : State) : Host.Outcome State Fault Refusal := .next (kw1W (s.setCmd 0xE0))

/-- KW.2W, code `0xE1` (R146). -/
def execKw2W (s : State) : Host.Outcome State Fault Refusal := .next (kw2W (s.setCmd 0xE1))

end Sys2Proof.Machine
end

