-- ==== Sys2Proof/Machine/Frame.lean ====
section
/-! DEFINITION. The frame codec (45_frame_codec.md) and the frame value (10_state.md R20). -/
namespace Sys2Proof.Machine

/-! ### Serializing -/

/-- The bytes before the CRC, in wire order (30_encoding.md R70, R154). -/
def frameBody (m2w : Bool) (plen : Nat) (s : State) : List Byte :=
  [s.ctrl0, s.ctrl1] ++ s.dst.toList ++ s.src.toList ++ [s.opc] ++ s.params.toList.take plen
    ++ (if m2w then [] else [s.rcl, s.rch]) ++ s.mac.toList

/-- `serialize(m2w, plen, tl)` (R154): `BUF`, `CRC`, `FCRC`, `BUFLEN`, `TLEN`; `BUF[tl..31]` keep their contents. -/
def serialize (m2w : Bool) (plen tl : Nat) (s : State) : State :=
  let body := frameBody m2w plen s
  let c := crc16 body
  { (s.setCrc c).setFcrc c with
    buf := patch s.buf 0 (body ++ le16 c), buflen := BitVec.ofNat 8 tl, tlen := BitVec.ofNat 8 tl }

/-- The tests of FRM.BUILD, in order (R150, 60_exceptions.md R186). -/
def buildError (s : State) : Option ErrorKind :=
  if !s.initFlag then some .notInitialized
  else if s.plen.toNat > Config.paramsMax then some .paramsOverflow
  else if totalLength s.cfgMode s.plen.toNat > Config.frameMax then some .bufferTooSmall
  else if s.cfgMode && !s.cfgChalv then some .challengeRequired
  else none

/-- The fields FRM.BUILD computes, for total length `tl`: the control bytes, the MAC and the registers of its
computation (R150). -/
def fillFrame (m2w : Bool) (tl : Nat) (s : State) : State :=
  let m := macStage m2w { s with ctrl0 := builtCtrl0 m2w tl, ctrl1 := 0x00 }
  { m with mac := m.macc }

/-- The body of FRM.BUILD (R150). -/
def frmBuild (s : State) : State :=
  match buildError s with
  | some k => raise k s
  | none =>
    let m2w := s.cfgMode
    let plen := s.plen.toNat
    let tl := totalLength m2w plen
    completePlain (serialize m2w plen tl (fillFrame m2w tl s))

/-- The tests of FRM.SER, in order (R153, 60_exceptions.md R186). -/
def serError (s : State) : Option ErrorKind :=
  if !s.initFlag then some .notInitialized
  else if s.plen.toNat > Config.paramsMax then some .paramsOverflow
  else if totalLength (modeOf s.ctrl0) s.plen.toNat > Config.frameMax then some .bufferTooSmall
  else if statedLength s.ctrl0 ≠ totalLength (modeOf s.ctrl0) s.plen.toNat then some .lengthFieldMismatch
  else none

/-- The body of FRM.SER (R153): the mode is the frame's own, and the MAC is not recomputed. -/
def frmSer (s : State) : State :=
  match serError s with
  | some k => raise k s
  | none =>
    let m2w := modeOf s.ctrl0
    let plen := s.plen.toNat
    completePlain (serialize m2w plen (totalLength m2w plen) s)

/-! ### Parsing -/

/-- The tests of `parse()`, in order (R155, 60_exceptions.md R186). -/
def parseError (s : State) : Option ErrorKind :=
  let n := s.buflen.toNat
  let b0 := byteAt s.buf 0
  if n < Config.parseMin then some .frameTooShort
  else if statedLength b0 > Config.frameMax then some .frameTooLong
  else if n < statedLength b0 then some .lengthFieldMismatch
  else if statedLength b0 < totalLength (modeOf b0) 0 then some .lengthFieldMismatch
  else none

/-- The writes of `parse()` once no error can occur (R155): the field registers, `TLEN` and `STATUS.TRUNC`. -/
def loadFrame (s : State) : State :=
  let b0 := byteAt s.buf 0
  let m2w := modeOf b0
  let tl := statedLength b0
  let plen := statedParams b0
  let k := 9 + plen
  let j := k + rcFieldLen m2w
  let loaded : State :=
    { s with
      ctrl0 := b0
      ctrl1 := byteAt s.buf 1
      dst := Vector.ofFn fun i : Fin 3 => byteAt s.buf (2 + i.val)
      src := Vector.ofFn fun i : Fin 3 => byteAt s.buf (5 + i.val)
      opc := byteAt s.buf 8
      plen := BitVec.ofNat 8 plen
      params := patch s.params 0 ((s.buf.toList.drop 9).take plen)
      rcl := bif m2w then s.rcl else byteAt s.buf k
      rch := bif m2w then s.rch else byteAt s.buf (k + 1)
      mac := Vector.ofFn fun i : Fin 6 => byteAt s.buf (j + i.val)
      fcrcl := byteAt s.buf (j + 6)
      fcrch := byteAt s.buf (j + 7)
      tlen := BitVec.ofNat 8 tl }
  loaded.setTrunc (decide (s.buflen.toNat > tl))

/-- `parse()` (R155): the error raised, or the state with the frame loaded. -/
def parse (s : State) : Except ErrorKind State :=
  match parseError s with
  | some k => .error k
  | none => .ok (loadFrame s)

/-- The body of FRM.PARSE (R155). -/
def frmParse (s : State) : State :=
  if s.initFlag then
    match parse s with
    | .error k => raise k s
    | .ok p => complete (p.setMatch false)
  else raise .notInitialized s

/-! ### Validating -/

/-- `STATUS.MATCH <- 1 ; done`: the frame is accepted (R157). -/
def accept (s : State) : State := complete (s.setMatch true)

/-- `CRC <- crc16(BUF[0..TLEN-3])`: the CRC recomputed over the parsed frame without its last two bytes (R157). -/
def recomputeCrc (p : State) : State := p.setCrc (crc16 (p.bufBytes (p.tlen.toNat - 2)))

/-- FRM.VALID's tests on the parsed frame, in order CRC, challenge, MAC (R157). -/
def validateFrame (p : State) : State :=
  let m2w := modeOf p.ctrl0
  let q := recomputeCrc p
  if q.crc ≠ q.fcrc then raiseKeepTrunc .badCrc q
  else if m2w && !q.cfgChalv then raiseKeepTrunc .challengeRequired q
  else if q.cfgKeyv then
    let m := macStage m2w q
    if ctEq6 m.macc m.mac then accept m else raiseKeepTrunc .badMac m
  else accept q

/-- The body of FRM.VALID (R157). -/
def frmValid (s : State) : State :=
  if s.initFlag then
    match parse s with
    | .error k => raise k s
    | .ok p => validateFrame p
  else raise .notInitialized s

/-- FRM.BUILD, code `0xF0` (R150). -/
def execFrmBuild (s : State) : Host.Outcome State Fault Refusal := .next (frmBuild (s.setCmd 0xF0))

/-- FRM.SER, code `0xF1` (R153). -/
def execFrmSer (s : State) : Host.Outcome State Fault Refusal := .next (frmSer (s.setCmd 0xF1))

/-- FRM.PARSE, code `0xF2` (R155). -/
def execFrmParse (s : State) : Host.Outcome State Fault Refusal := .next (frmParse (s.setCmd 0xF2))

/-- FRM.VALID, code `0xF3` (R157). -/
def execFrmValid (s : State) : Host.Outcome State Fault Refusal := .next (frmValid (s.setCmd 0xF3))

/-! ### The frame value and its predicates -/

/-- The frame value `F` of 10_state.md R20, a tuple of field registers. -/
structure FrameValue where
  ctrl0 : Byte
  ctrl1 : Byte
  dst : Vector Byte 3
  src : Vector Byte 3
  opc : Byte
  plen : Byte
  params : List Byte
  /-- Part of the value only of a 1W frame. -/
  rc : Option Half
  mac : Vector Byte 6
  fcrc : Half
  deriving DecidableEq, Repr

/-- The frame value the field registers hold (10_state.md R20). Where `PLEN` is 22..255 (R19), `PARAMS[0..PLEN-1]` does
not exist and the spec is silent: all 21 bytes are taken. DESIGN CHOICE (log entry 15); no command reads this view. -/
def State.frameValue (s : State) : FrameValue :=
  { ctrl0 := s.ctrl0, ctrl1 := s.ctrl1, dst := s.dst, src := s.src, opc := s.opc, plen := s.plen,
    params := s.paramBytes, rc := if modeOf s.ctrl0 then none else some s.rc, mac := s.mac, fcrc := s.fcrc }

/-- `is_broadcast(F)`, evaluated by the host (30_encoding.md R76). -/
def FrameValue.isBroadcast (f : FrameValue) : Bool := f.dst[0] == 0 && f.dst[1] == 0 && f.dst[2] == 0

/-- `is_beacon(F)`, evaluated by the host (30_encoding.md R74, R76). -/
def FrameValue.isBeacon (f : FrameValue) : Bool := f.ctrl1.getLsbD 7

end Sys2Proof.Machine
end

