-- ==== Sys2Proof/Machine/HostAccess.lean ====
section
/-! DEFINITION. Arming the codec and the two host transactions (46_config_host.md). -/
namespace Sys2Proof.Machine

/-- The body of CFG.INIT (R170): `STATUS.INIT <- 1`, nothing else but the ending of every command. -/
def cfgInit (s : State) : State := completePlain (s.setInit true)

/-- What the byte `c` in `CMD` makes the block do (10_state.md R17, R171, 30_encoding.md R61 to R63): one of the 18
commands, or `IllegalCommand`. -/
def runCommand (c : Byte) (s : State) : State :=
  match commandOf c with
  | some .cfgInit => cfgInit s
  | some .crcInit => crcInit s
  | some .crcUpd => crcUpd s
  | some .crcBuf => crcBuf s
  | some .crcVfy => crcVfy s
  | some .crcApp => crcApp s
  | some .ivcInit => ivcInit s
  | some .ivcUpd => ivcUpd s
  | some .aesEnc => aesEnc s
  | some .ivBuild => ivBuild s
  | some .macGen => macGen s
  | some .macVfy => macVfy s
  | some .kw1W => kw1W s
  | some .kw2W => kw2W s
  | some .frmBuild => frmBuild s
  | some .frmSer => frmSer s
  | some .frmParse => frmParse s
  | some .frmValid => frmValid s
  | some (.wr _ _) => raise .illegalCommand s
  | some (.rd _ _) => raise .illegalCommand s
  | none => raise .illegalCommand s

/-- CFG.INIT, code `0x80` (R170). -/
def execCfgInit (s : State) : Host.Outcome State Fault Refusal := .next (cfgInit (s.setCmd 0x80))

/-- WR (R171). A write to `CMD` stores the byte and runs the command it selects; the decoder reads the words of the 18
assigned codes as those commands, so of a well-formed `WR` this is the illegal command (30_encoding.md R61, R63). -/
def execWr (addr data : Byte) (s : State) : Host.Outcome State Fault Refusal :=
  if addr = 0x00 then .next (runCommand data (s.setCmd data)) else .next (s.writeAt addr data)

/-- RD (R172): the byte goes to the host, and no register changes. The word's data byte is ignored. -/
def execRd (addr _ignored : Byte) (s : State) : Host.Outcome State Fault Refusal :=
  .next (s.observe (s.readAt addr))

end Sys2Proof.Machine
end

