-- ==== Sys2Proof/Machine/Dispatch.lean ====
section
/-! DEFINITION. From each instruction to its meaning. -/
namespace Sys2Proof.Machine

-- The 18 commands in the order of 30_encoding.md R62, then the two host transactions.
def exec (i : Instr) (s : State) : Host.Outcome State Fault Refusal :=
  match i with
  | .cfgInit => Sys2Proof.Machine.execCfgInit s
  | .crcInit => Sys2Proof.Machine.execCrcInit s
  | .crcUpd => Sys2Proof.Machine.execCrcUpd s
  | .crcBuf => Sys2Proof.Machine.execCrcBuf s
  | .crcVfy => Sys2Proof.Machine.execCrcVfy s
  | .crcApp => Sys2Proof.Machine.execCrcApp s
  | .ivcInit => Sys2Proof.Machine.execIvcInit s
  | .ivcUpd => Sys2Proof.Machine.execIvcUpd s
  | .aesEnc => Sys2Proof.Machine.execAesEnc s
  | .ivBuild => Sys2Proof.Machine.execIvBuild s
  | .macGen => Sys2Proof.Machine.execMacGen s
  | .macVfy => Sys2Proof.Machine.execMacVfy s
  | .kw1W => Sys2Proof.Machine.execKw1W s
  | .kw2W => Sys2Proof.Machine.execKw2W s
  | .frmBuild => Sys2Proof.Machine.execFrmBuild s
  | .frmSer => Sys2Proof.Machine.execFrmSer s
  | .frmParse => Sys2Proof.Machine.execFrmParse s
  | .frmValid => Sys2Proof.Machine.execFrmValid s
  | .wr addr data => Sys2Proof.Machine.execWr addr data s
  | .rd addr ignored => Sys2Proof.Machine.execRd addr ignored s

end Sys2Proof.Machine
end

