-- ==== Sys2Proof/WellFormed.lean ====
section
/-! DEFINITION. Which terms of `Instr` are the reading of a transaction word. -/
namespace Sys2Proof

/-- The one check: a write to `CMD` (address `0x00`) whose byte is an assigned command code is that command, not a
`WR` (30_encoding.md R61: the 18 command rows take precedence over the generic `WR` row). Every other term is
well-formed: any address and any data are legal (46_config_host.md R178). -/
def Instr.wf (i : Instr) : Bool :=
  match i with
  | .wr addr data => !(addr == 0x00 && (commandOf data).isSome)
  | .rd _ _ => true
  | .cfgInit | .crcInit | .crcUpd | .crcBuf | .crcVfy | .crcApp | .ivcInit | .ivcUpd | .aesEnc | .ivBuild
  | .macGen | .macVfy | .kw1W | .kw2W | .frmBuild | .frmSer | .frmParse | .frmValid => true

/-- The term is one a transaction word stands for. -/
abbrev Instr.WellFormed (i : Instr) : Prop := i.wf = true

end Sys2Proof
end

