-- ==== Sys2Proof/Decode.lean ====
section
/-! DEFINITION. From host transaction words to instructions and back (30_encoding.md R60 to R64). -/
namespace Sys2Proof

/-- Why a number is no transaction word. -/
inductive DecodeError where
  /-- The number needs more than 17 bits (30_encoding.md R60: "There is one length and one format"). Raised by
  `decodeNumber` only; safe (log entry 4). -/
  | wordTooWide
  deriving DecidableEq, Repr

/-- Bit 16 of a word, `W`: 1 = write (R60). -/
def wordIsWrite (w : HostWord) : Bool := w.getLsbD 16

/-- Bits 15:8 of a word (R60). -/
def wordAddr (w : HostWord) : Byte := w.extractLsb' 8 8

/-- Bits 7:0 of a word (R60). -/
def wordData (w : HostWord) : Byte := w.extractLsb' 0 8

/-- The word made of the three fields of format H: `(W << 16) | (addr << 8) | data` (R60). -/
def makeWord (write : Bool) (addr data : Byte) : HostWord :=
  ((BitVec.ofBool write).setWidth 17 <<< 16) ||| (addr.setWidth 17 <<< 8) ||| data.setWidth 17

/-- The instruction a word stands for (R61): the command rows first, then the generic write and read. Total: every
17-bit word is an instruction. -/
def decode (w : HostWord) : Instr :=
  if wordIsWrite w then
    if wordAddr w = 0x00 then
      match commandOf (wordData w) with
      | some i => i
      | none => .wr (wordAddr w) (wordData w)
    else .wr (wordAddr w) (wordData w)
  else .rd (wordAddr w) (wordData w)

/-- The instruction a number stands for, or the name of what is wrong with it. -/
def decodeNumber (n : Nat) : Except DecodeError Instr :=
  if n < 2 ^ 17 then .ok (decode (BitVec.ofNat 17 n)) else .error .wordTooWide

/-- The word that issues command `c`: `WR` to address `0x00` (R61). -/
def commandWord (c : Byte) : HostWord := makeWord true 0x00 c

/-- The word of an instruction (R60 to R62). -/
def encode (i : Instr) : HostWord :=
  match i with
  | .cfgInit => commandWord 0x80
  | .crcInit => commandWord 0x90
  | .crcUpd => commandWord 0x91
  | .crcBuf => commandWord 0x92
  | .crcVfy => commandWord 0x93
  | .crcApp => commandWord 0x94
  | .ivcInit => commandWord 0xA0
  | .ivcUpd => commandWord 0xA1
  | .aesEnc => commandWord 0xB0
  | .ivBuild => commandWord 0xC0
  | .macGen => commandWord 0xD0
  | .macVfy => commandWord 0xD1
  | .kw1W => commandWord 0xE0
  | .kw2W => commandWord 0xE1
  | .frmBuild => commandWord 0xF0
  | .frmSer => commandWord 0xF1
  | .frmParse => commandWord 0xF2
  | .frmValid => commandWord 0xF3
  | .wr addr data => makeWord true addr data
  | .rd addr ignored => makeWord false addr ignored

/-- The instruction the decoder reads from a table row's bits `w` (the host's question). The word is 17 bits, bit 0
its least significant bit; bits at and above `nbits` are 0. -/
def decodeTableWord (nbits w : Nat) : Option Instr :=
  match decodeNumber (w % 2 ^ nbits) with
  | .ok i => some i
  | .error _ => none

end Sys2Proof
end

