-- ==== Sys2Proof/Machine/Fetch.lean ====
section
/-! DEFINITION. How the next transaction reaches the block (46_config_host.md R178, log entry 2). -/
namespace Sys2Proof.Machine

/-- The next transaction word and the state with it taken from the host's list; `none` when the list is exhausted
(R178: "The machine takes the words one at a time in list order"). -/
def takeWord (s : State) : Option (HostWord × State) :=
  match s.pending with
  | [] => none
  | w :: rest => some (w, s.withHostList rest)

/-- The state in which the transaction `n` (a number below `2^17`) is the host's next one, before those already
pending. No other number is a transaction (30_encoding.md R60): then nothing is added. -/
def issueNext (n : Nat) (s : State) : State :=
  if n < 2 ^ 17 then s.withHostList (BitVec.ofNat 17 n :: s.pending) else s

end Sys2Proof.Machine
end

