-- ==== Sys2Proof/Machine/Step.lean ====
section
/-! DEFINITION. One step: one host transaction together with the command it starts (10_state.md R10). -/
namespace Sys2Proof.Machine

/-- One step (R10, 46_config_host.md R178). When the host's list is exhausted the block holds its registers and does
nothing (R10, 70_reset_and_hazards.md R214; log entry 3). -/
def step (s : State) : Host.Outcome State Fault Refusal :=
  match takeWord s with
  | none => .next s
  | some (w, t) => exec (decode w) t

/-- The state in which the very next step takes the table word `w` (bits at and above `nbits` zero): the host issues
it next (log entry 2). -/
def State.withFetchWord (s : State) (nbits w : Nat) : State := issueNext (w % 2 ^ nbits) s

end Sys2Proof.Machine
end

