-- ==== Sys2Proof/Machine/Assembler.lean ====
section
/-! DEFINITION. The host-program notation: one transaction per `wr` and `rd`, and the pseudo-instructions
(30_encoding.md R67, R68). `expect` and `expects` are `rd` and `rds` with a claim, no transactions of their own.
DESIGN CHOICE (log entry 16): the spec does not say what an expansion that runs past address 0xFF stands for; here the
address wraps to 0x00. -/
namespace Sys2Proof.Machine

/-- `wr <addr>, <byte>` (R67). -/
def asmWr (addr data : Byte) : List HostWord := [makeWord true addr data]

/-- `rd <addr>` (R67); the assembler emits `0x00` in the ignored byte (R60). -/
def asmRd (addr : Byte) : List HostWord := [makeWord false addr 0x00]

/-- `cmd <MNEMONIC>`: `wr CMD, <code>` (R68); for `WR` and `RD`, which have no code, their own word (log entry 16). -/
def asmCmd (i : Instr) : List HostWord := [encode i]

/-- `wrs <addr>, b0 b1 …` (R68). Past 0xFF the address wraps to 0x00, `CMD`: DESIGN CHOICE (log entry 16). -/
def asmWrs (addr : Byte) (bytes : List Byte) : List HostWord :=
  match bytes with
  | [] => []
  | b :: rest => asmWr addr b ++ asmWrs (addr + 1) rest

/-- `wr16 <addr>, <u16 v>`: low byte at the lower address (R68); of address 0xFF the high byte's is 0x00
(DESIGN CHOICE, log entry 16). -/
def asmWr16 (addr : Byte) (v : Half) : List HostWord := asmWrs addr (le16 v)

/-- `rds <addr>, n` (R68). Past 0xFF the address wraps to 0x00: DESIGN CHOICE (log entry 16). -/
def asmRds (addr : Byte) (n : Nat) : List HostWord :=
  match n with
  | 0 => []
  | k + 1 => asmRd addr ++ asmRds (addr + 1) k

end Sys2Proof.Machine
end

