-- ==== Sys2Proof/Safety.lean ====
section
/-! DEFINITION. The words claims about the block are stated in: what a legal state is, what a command may write, how
a command ends, what a frame in the buffer is, what a run is. -/
namespace Sys2Proof.Machine

/-! ### Legal states and reset -/

/-- What every state after reset keeps: the reserved bits of `STATUS` and `CFG` read 0 (10_state.md R14, R16),
`BUFLEN` is 0..32 (R18), `ERR` holds a code that is raised (60_exceptions.md R180), `TLEN` is 0 or the length of a frame
(00_scope.md R5). -/
structure State.Inv (s : State) : Prop where
  statusReserved : ∀ k, 3 ≤ k → s.status.getLsbD k = false
  cfgReserved : ∀ k, 3 ≤ k → s.cfg.getLsbD k = false
  buflen_le : s.buflen.toNat ≤ 32
  err_le : s.err.toNat ≤ 0x0B
  err_not_radio : s.err ≠ 0x08
  tlen_range : s.tlen = 0x00 ∨ (17 ≤ s.tlen.toNat ∧ s.tlen.toNat ≤ 32)

/-- A state reset may leave: the registers for which 10_state.md R23 gives a value hold it, the others hold any
value. -/
structure State.IsReset (s : State) : Prop where
  cmd : s.cmd = 0x00
  status : s.status = 0x00
  err : s.err = 0x00
  cfg : s.cfg = 0x00
  din : s.din = 0x00
  buflen : s.buflen = 0x00
  crcl : s.crcl = 0x00
  crch : s.crch = 0x00
  c1 : s.c1 = 0x00
  c2 : s.c2 = 0x00
  ctrl0 : s.ctrl0 = 0x00
  ctrl1 : s.ctrl1 = 0x00
  plen : s.plen = 0x00
  tlen : s.tlen = 0x00

/-- The registers 10_state.md R23 leaves unspecified after reset. -/
def unspecifiedAtReset (r : Reg) : Bool :=
  match r with
  | .dst _ | .src _ | .opc | .rcl | .rch | .mac _ | .fcrcl | .fcrch | .params _ | .key _ | .ain _ | .aout _ | .chal _
  | .macc _ | .node _ | .buf _ | .wkey _ => true
  | .cmd | .status | .err | .cfg | .din | .buflen | .crcl | .crch | .c1 | .c2 | .ctrl0 | .ctrl1 | .plen | .tlen => false

/-! ### What a transaction changes -/

/-- Every register outside `written` is as before, and so are the model's two lists. -/
def Keeps (written : Reg → Bool) (s t : State) : Prop :=
  (∀ r, written r = false → t.get r = s.get r) ∧ t.pending = s.pending ∧ t.observed = s.observed

/-- The registers every command writes: its own byte in `CMD`, `STATUS` and `ERR` (10_state.md R17,
60_exceptions.md R183). -/
def endingReg (r : Reg) : Bool :=
  match r with
  | .cmd | .status | .err => true
  | _ => false

/-- The column "Writes" of the operand table 30_encoding.md R66: the registers a command may write besides
`endingReg`. `wr` and `rd` are no commands and have no row. -/
def commandWrites (i : Instr) (r : Reg) : Bool :=
  match i, r with
  | .crcInit, .crcl | .crcInit, .crch => true
  | .crcUpd, .crcl | .crcUpd, .crch => true
  | .crcBuf, .crcl | .crcBuf, .crch => true
  | .crcVfy, .crcl | .crcVfy, .crch => true
  | .crcApp, .crcl | .crcApp, .crch | .crcApp, .buf _ | .crcApp, .buflen => true
  | .ivcInit, .c1 | .ivcInit, .c2 => true
  | .ivcUpd, .c1 | .ivcUpd, .c2 => true
  | .aesEnc, .aout _ => true
  | .ivBuild, .c1 | .ivBuild, .c2 | .ivBuild, .ain _ => true
  | .macGen, .c1 | .macGen, .c2 | .macGen, .ain _ | .macGen, .aout _ | .macGen, .macc _ => true
  | .macVfy, .c1 | .macVfy, .c2 | .macVfy, .ain _ | .macVfy, .aout _ | .macVfy, .macc _ => true
  | .kw1W, .ain _ | .kw1W, .aout _ | .kw1W, .wkey _ => true
  | .kw2W, .ain _ | .kw2W, .aout _ | .kw2W, .wkey _ => true
  | .frmBuild, .ctrl0 | .frmBuild, .ctrl1 | .frmBuild, .c1 | .frmBuild, .c2 | .frmBuild, .ain _ | .frmBuild, .aout _
  | .frmBuild, .macc _ | .frmBuild, .mac _ | .frmBuild, .crcl | .frmBuild, .crch | .frmBuild, .fcrcl
  | .frmBuild, .fcrch | .frmBuild, .buf _ | .frmBuild, .buflen | .frmBuild, .tlen => true
  | .frmSer, .crcl | .frmSer, .crch | .frmSer, .fcrcl | .frmSer, .fcrch | .frmSer, .buf _ | .frmSer, .buflen
  | .frmSer, .tlen => true
  | .frmParse, .ctrl0 | .frmParse, .ctrl1 | .frmParse, .dst _ | .frmParse, .src _ | .frmParse, .opc | .frmParse, .plen
  | .frmParse, .params _ | .frmParse, .rcl | .frmParse, .rch | .frmParse, .mac _ | .frmParse, .fcrcl
  | .frmParse, .fcrch | .frmParse, .tlen => true
  | .frmValid, .ctrl0 | .frmValid, .ctrl1 | .frmValid, .dst _ | .frmValid, .src _ | .frmValid, .opc | .frmValid, .plen
  | .frmValid, .params _ | .frmValid, .rcl | .frmValid, .rch | .frmValid, .mac _ | .frmValid, .fcrcl
  | .frmValid, .fcrch | .frmValid, .tlen | .frmValid, .crcl | .frmValid, .crch | .frmValid, .c1 | .frmValid, .c2
  | .frmValid, .ain _ | .frmValid, .aout _ | .frmValid, .macc _ => true
  | _, _ => false

/-- `i` keeps every register but those of its row of R66 and the ones every command writes. -/
def KeepsOthers (i : Instr) (s t : State) : Prop := Keeps (fun r => endingReg r || commandWrites i r) s t

/-- How a command ends (10_state.md R14, R17, 60_exceptions.md R183, R184): its byte in `CMD`, `ERR`, `STATUS.MATCH`
and `STATUS.TRUNC` as given, and every other bit of `STATUS` as before. -/
def Ends (code err : Byte) (isMatch isTrunc : Bool) (s t : State) : Prop :=
  t.cmd = code ∧ t.err = err ∧ t.matchFlag = isMatch ∧ t.truncFlag = isTrunc ∧
    ∀ k, k ≠ 1 → k ≠ 2 → t.status.getLsbD k = s.status.getLsbD k

/-- The command ends in the error `err` and changes nothing but `CMD`, `STATUS.MATCH`, `STATUS.TRUNC` and `ERR`
(60_exceptions.md R184, R185). -/
def RefusesWith (i : Instr) (code err : Byte) (s : State) : Prop :=
  ∃ t, exec i s = .next t ∧ Ends code err false false s t ∧ Keeps endingReg s t

/-- The instruction is one of the 18 commands. -/
def isCommand (i : Instr) : Bool :=
  match i with
  | .wr _ _ | .rd _ _ => false
  | _ => true

/-! ### Frames -/

/-- The length of the rolling-code field, `r = (m2w ? 0 : 2)` (30_encoding.md R70). -/
def rollingLength (m2w : Bool) : Nat := if m2w then 0 else 2

/-- The field registers and `BUF` agree on a frame of mode `m2w` with `p` parameter bytes, byte by byte of the layout
table of 30_encoding.md R70. -/
structure State.HoldsFrame (m2w : Bool) (p : Nat) (t : State) : Prop where
  ctrl0 : byteAt t.buf 0 = t.ctrl0
  ctrl1 : byteAt t.buf 1 = t.ctrl1
  dst : ∀ i : Fin 3, byteAt t.buf (2 + i) = t.dst[i]
  src : ∀ i : Fin 3, byteAt t.buf (5 + i) = t.src[i]
  opc : byteAt t.buf 8 = t.opc
  plen : t.plen.toNat = p
  params : ∀ i : Fin 21, i < p → byteAt t.buf (9 + i) = t.params[i]
  rc : m2w = false → byteAt t.buf (9 + p) = t.rcl ∧ byteAt t.buf (10 + p) = t.rch
  mac : ∀ j : Fin 6, byteAt t.buf (9 + p + rollingLength m2w + j) = t.mac[j]
  fcrcl : byteAt t.buf (15 + p + rollingLength m2w) = t.fcrcl
  fcrch : byteAt t.buf (16 + p + rollingLength m2w) = t.fcrch
  tlen : t.tlen.toNat = 17 + p + rollingLength m2w

/-- The IV of 43_iv_builder.md R135 for the opcode, parameters, rolling code and challenge that `s` holds, element by
element. -/
structure IsIvOf (m2w : Bool) (s : State) (block : Vector Byte 16) : Prop where
  opcode : block[0] = s.opc
  params : ∀ i : Fin 8, 1 ≤ i.val → i.val ≤ s.plen.toNat → block[i] = byteAt s.params (i - 1)
  padding : ∀ i : Fin 8, s.plen.toNat < i.val → block[i] = 0x55
  checksum : (block[8], block[9]) = ivck (s.opc :: s.params.toList.take s.plen.toNat)
  rollingCode : m2w = false → block[10] = s.rcl ∧ block[11] = s.rch
  tail : m2w = false → ∀ i : Fin 4, block[12 + i.val] = 0x55
  challenge : m2w = true → ∀ j : Fin 6, block[10 + j.val] = s.chal[j]

/-! ### The host -/

/-- What the software around the block is to do with an error (60_exceptions.md R181). -/
inductive HostPolicy where
  | rejectSilently
  | surfaceAuthenticationError
  | fatalBuildError
  | programmerError
  | surfaceOperationFailure
  deriving DecidableEq, Repr

/-- The policy of each error kind (60_exceptions.md R181). The block itself does the same for every kind (R184). -/
def hostPolicy (k : ErrorKind) : HostPolicy :=
  match k with
  | .frameTooShort | .frameTooLong | .lengthFieldMismatch | .badCrc => .rejectSilently
  | .badMac => .surfaceAuthenticationError
  | .challengeRequired | .paramsOverflow | .bufferTooSmall => .fatalBuildError
  | .radioError => .surfaceOperationFailure
  | .notInitialized | .illegalCommand => .programmerError

/-- A run of the words from `s`: one step for each of them (46_config_host.md R178). -/
def runWords (s : State) (words : List HostWord) : Host.Outcome State Fault Refusal :=
  Sys2Proof.core.run words.length (s.withHostList words)

/-! ### The cipher's field -/

/-- `a ⊗ b`: multiplication of polynomials over GF(2) modulo `0x11B`, by the bits of `b` from bit 7 down
(42_aes.md R122). -/
def gfTimes (a b : Byte) : Byte :=
  (List.range 8).foldl (fun acc k => xtime acc ^^^ (if b.getLsbD (7 - k) then a else 0)) 0

/-- The affine map `A` of the S-box's definition (42_aes.md R123), with `c = 0x63`. -/
def sboxAffine (y : Byte) : Byte :=
  y ^^^ y.rotateRight 4 ^^^ y.rotateRight 5 ^^^ y.rotateRight 6 ^^^ y.rotateRight 7 ^^^ 0x63

end Sys2Proof.Machine
end

