-- ==== Sys2Proof/Certificates/Slice0/Obligations.lean ====
section
/-! DEFINITION. The statements about the block, from the numbered rules of spec/. -/

open Sys2Proof Sys2Proof.Machine

/-! ### Encoding -/

/-- Every well-formed instruction is read back from its word, every operand at every value (30_encoding.md R60 to
R62). -/
def Obligations.DecodeOfEncodeIsTheInstruction : Prop :=
  ∀ i : Instr, i.WellFormed → decode (encode i) = i

/-- Every 17-bit word decodes to a well-formed instruction (30_encoding.md R60, R61), and that instruction's word is the
word: no bit is lost. For an `RD` word whose data byte is not 0 the second clause is the model's choice, not the spec's
(log entry 5, DESIGN CHOICE): R60 calls that byte ignored and has an assembler emit `0x00`, and the model keeps it in
the term. -/
def Obligations.EncodeOfDecodeIsTheWord : Prop :=
  ∀ w : HostWord, (decode w).WellFormed ∧ encode (decode w) = w

/-- 30_encoding.md R61: "A decoder first tests `W = 1 and addr = 0x00` and, if it holds, decodes `data` by R62;
otherwise the word is a plain `WR` or `RD`", in the numbers of opcode_table.json. A write of a byte that R62 does not
assign is read as `WR`, whose meaning raises `IllegalCommand` (R63). -/
def Obligations.DecoderTestsCommandsFirst : Prop :=
  ∀ w : HostWord, decode w =
    if w &&& 0x1FF00 = 0x10000 then
      (if w = 0x10080 then .cfgInit
       else if w = 0x10090 then .crcInit else if w = 0x10091 then .crcUpd else if w = 0x10092 then .crcBuf
       else if w = 0x10093 then .crcVfy else if w = 0x10094 then .crcApp
       else if w = 0x100A0 then .ivcInit else if w = 0x100A1 then .ivcUpd
       else if w = 0x100B0 then .aesEnc
       else if w = 0x100C0 then .ivBuild
       else if w = 0x100D0 then .macGen else if w = 0x100D1 then .macVfy
       else if w = 0x100E0 then .kw1W else if w = 0x100E1 then .kw2W
       else if w = 0x100F0 then .frmBuild else if w = 0x100F1 then .frmSer
       else if w = 0x100F2 then .frmParse else if w = 0x100F3 then .frmValid
       else .wr 0x00 (w.setWidth 8))
    else if w &&& 0x10000 = 0x10000 then .wr ((w >>> 8).setWidth 8) (w.setWidth 8)
    else .rd ((w >>> 8).setWidth 8) (w.setWidth 8)

/-- Words written out from the spec's own encodings (46_config_host.md R171, R172, 30_encoding.md R62, 95_test_vectors.md
V-HOST-1) decode to what they stand for. -/
def Obligations.SampleWordsDecode : Prop :=
  decode 0x1435A = .wr 0x43 0x5A ∧ decode 0x00200 = .rd 0x02 0x00 ∧ decode 0x002FF = .rd 0x02 0xFF ∧
  decode 0x100F3 = .frmValid ∧ decode 0x10080 = .cfgInit ∧ decode 0x19F00 = .wr 0x9F 0x00 ∧
  decode 0x1FFFF = .wr 0xFF 0xFF ∧ decode 0x10095 = .wr 0x00 0x95

/-! ### Steps and runs -/

/-- A step takes the next word of the host's list and runs the instruction it decodes to; with no word left the block
holds its state (46_config_host.md R178, 10_state.md R10; the idle step is log entry 3). -/
def Obligations.StepRunsTheDecodedTransaction : Prop :=
  ∀ s : State,
    (∀ w rest, s.pending = w :: rest → step s = exec (decode w) (s.withHostList rest)) ∧
    (s.pending = [] → step s = .next s)

/-- 46_config_host.md R178: "every step terminates, so every finite list has exactly one end state and one
observation". Every run over a finite list of words ends, with the list exhausted, in one state; the observation has
grown by exactly one byte for each `RD` word of the list. -/
def Obligations.EveryRunEndsWithOneObservationPerRead : Prop :=
  ∀ (words : List HostWord) (s : State), ∃ t : State,
    runWords s words = .next t ∧ t.pending = [] ∧
      ∃ bytes : List Byte, t.observed = s.observed ++ bytes ∧
        bytes.length = words.countP fun w => !w.getLsbD 16

/-! ### Reset and invariants -/

/-- 10_state.md R23: the registers with a reset value hold it, whatever the others hold, and reserved addresses read 0. -/
def Obligations.ResetLeavesTheSpecsValues : Prop :=
  (∀ free : State, (State.resetFrom free).IsReset ∧
    (∀ r, unspecifiedAtReset r = true → (State.resetFrom free).get r = free.get r) ∧
    ∀ a, regAt a = none → (State.resetFrom free).readAt a = 0x00) ∧
  State.reset.IsReset

/-- Every state reset may leave meets the invariant. -/
def Obligations.ResetMeetsTheInvariant : Prop :=
  (∀ s : State, s.IsReset → s.Inv) ∧ State.reset.Inv

/-- Every step keeps the invariant: the reserved bits of `STATUS` and `CFG` read 0, `BUFLEN <= 32`, `ERR` is a code
that is raised and never `0x08`, `TLEN` is 0 or a frame length (10_state.md R14, R16, R18, 60_exceptions.md R180,
00_scope.md R5). -/
def Obligations.StepKeepsTheInvariant : Prop :=
  ∀ s t : State, s.Inv → step s = .next t → t.Inv

/-- 60_exceptions.md R183: "`STATUS.INIT` is written only by CFG.INIT". Every transaction but CFG.INIT leaves
`STATUS.INIT` as it is; CFG.INIT sets it. -/
def Obligations.OnlyCfgInitArms : Prop :=
  ∀ (i : Instr) (s t : State), i.WellFormed → exec i s = .next t →
    t.initFlag = (s.initFlag || decide (i = .cfgInit))

/-- 30_encoding.md R66 as a frame: every command completes and changes no register but `CMD`, `STATUS`, `ERR` and
those of its row of the operand table. So `CFG`, `DIN`, `KEY`, `CHAL` and `NODE` are written by the host only. The rows of
FRM.PARSE and FRM.VALID name `PARAMS`, `RCL` and `RCH` whole; that `PARAMS` beyond `PLEN`, and `RCL`, `RCH` of a 2W frame,
are kept is said by FrmParseLoadsTheFields and FrmValidTestsCrcChallengeMac. -/
def Obligations.CommandsWriteOnlyTheirOperands : Prop :=
  ∀ (i : Instr) (s : State), isCommand i = true → ∃ t, exec i s = .next t ∧ KeepsOthers i s t

/-- 60_exceptions.md R185: a command other than FRM.VALID that ends in an error leaves every register other than
`ERR`, `STATUS.MATCH`, `STATUS.TRUNC` and `CMD` exactly as it was. -/
def Obligations.FailingCommandsWriteNothingElse : Prop :=
  ∀ (i : Instr) (s t : State), isCommand i = true → i ≠ .frmValid → exec i s = .next t → t.err ≠ 0x00 →
    Keeps endingReg s t ∧ t.matchFlag = false ∧ t.truncFlag = false ∧ t.initFlag = s.initFlag

/-! ### Host access -/

/-- The register map is one to one, and the addresses without a register are exactly the reserved ones (10_state.md
R13, 20_memory.md R41). -/
def Obligations.RegisterMapIsOneToOne : Prop :=
  (∀ r : Reg, regAt (addrOf r) = some r) ∧ (∀ a r, regAt a = some r → addrOf r = a) ∧
  ∀ a : Byte, regAt a = none ↔
    (a.toNat = 0x1F ∨ (0x35 ≤ a.toNat ∧ a.toNat ≤ 0x3F) ∨ a.toNat = 0x7F ∨ 0xB0 ≤ a.toNat)

/-- 46_config_host.md R171, a `WR` that is no command issue: `CFG` takes `data & 0x07`, `BUFLEN` takes
`min(data, 32)`, `STATUS`, `ERR`, `TLEN` and reserved addresses ignore the write, any other register takes the byte;
no other register changes. -/
def Obligations.HostWriteStoresOneByte : Prop :=
  (∀ (r : Reg) (v : Byte) (s : State), r ≠ .cmd → ∃ t, exec (.wr (addrOf r) v) s = .next t ∧
    Keeps (fun q => decide (q = r)) s t ∧
    (t.get r).toNat =
      if r = .status ∨ r = .err ∨ r = .tlen then (s.get r).toNat
      else if r = .cfg then v.toNat % 8
      else if r = .buflen then min v.toNat 32
      else v.toNat) ∧
  (∀ (a v : Byte) (s : State), regAt a = none → exec (.wr a v) s = .next s)

/-- 30_encoding.md R63: a byte that is none of the 18 codes, written to `CMD`, is stored there, raises
`IllegalCommand` (`0x0B`) and changes nothing else. -/
def Obligations.UnassignedCodesAreIllegal : Prop :=
  ∀ (c : Byte) (s : State),
    c ∉ [0x80, 0x90, 0x91, 0x92, 0x93, 0x94, 0xA0, 0xA1, 0xB0, 0xC0, 0xD0, 0xD1, 0xE0, 0xE1, 0xF0, 0xF1, 0xF2, 0xF3] →
    RefusesWith (.wr 0x00 c) c 0x0B s

/-- A `WR` to `CMD` of an assigned code, as a term, has the meaning of the command (46_config_host.md R171: "run the
command data selects"). The decoder never makes such a term; its meaning is the model's reading of R171 (log entry 12). -/
def Obligations.WritingACodeRunsItsCommand : Prop :=
  ∀ (c : Byte) (i : Instr) (s : State), (c, i) ∈ commandTable → exec (.wr 0x00 c) s = exec i s

/-- 46_config_host.md R172: `RD` returns the register at the address, `0x00` at a reserved address; it changes no
register, and the word's data byte has no effect. -/
def Obligations.HostReadReturnsTheRegister : Prop :=
  ∀ (a x : Byte) (s : State), ∃ t, exec (.rd a x) s = .next t ∧
    (∀ r, t.get r = s.get r) ∧ t.pending = s.pending ∧
    t.observed = s.observed ++ [match regAt a with | some r => s.get r | none => 0x00]

/-- 20_memory.md R48: "A later read of a register returns the value of the latest earlier write to it". Writing a
byte to a register that takes any byte, then reading its address, in two steps of the machine, returns the byte. -/
def Obligations.ReadAfterWriteReturnsTheByte : Prop :=
  ∀ (r : Reg) (v x : Byte) (s : State), r ∉ [Reg.cmd, .status, .err, .tlen, .cfg, .buflen] →
    ∃ t, runWords s [makeWord true (addrOf r) v, makeWord false (addrOf r) x] = .next t ∧
      t.observed = s.observed ++ [v] ∧ t.get r = v ∧ ∀ q, q ≠ r → t.get q = s.get q

/-! ### Configuration -/

/-- 46_config_host.md R170: CFG.INIT sets `STATUS.INIT`, clears `MATCH`, `TRUNC` and `ERR`, and writes no other
register. -/
def Obligations.CfgInitArmsTheCodec : Prop :=
  ∀ s : State, ∃ t, exec .cfgInit s = .next t ∧ t.initFlag = true ∧ t.matchFlag = false ∧ t.truncFlag = false ∧
    (∀ k, 3 ≤ k → t.status.getLsbD k = s.status.getLsbD k) ∧ t.cmd = 0x80 ∧ t.err = 0x00 ∧ KeepsOthers .cfgInit s t

/-! ### CRC -/

/-- 40_crc.md R100, in natural numbers: XOR the byte in, then eight times shift right and, when the bit shifted out
was 1, XOR `0x8408`. -/
def Obligations.CrcByteIsTheListing : Prop :=
  ∀ (crc : Half) (b : Byte), ∃ x : Nat → Nat, x 0 = crc.toNat ^^^ b.toNat ∧
    (∀ k, k < 8 → x (k + 1) = if x k % 2 = 1 then (x k / 2) ^^^ 0x8408 else x k / 2) ∧
    (crcByte crc b).toNat = x 8

/-- 40_crc.md R101 for CRC.BUF (R104): `CRC` becomes the value got from `0x0000` by feeding `BUF[0..BUFLEN-1]` in
increasing order, whatever `CRC` held; nothing else changes. -/
def Obligations.CrcBufFeedsTheBufferInOrder : Prop :=
  ∀ s : State, s.buflen.toNat ≤ 32 → ∃ t, exec .crcBuf s = .next t ∧ Ends 0x92 0x00 false false s t ∧
    KeepsOthers .crcBuf s t ∧
    ∃ x : Nat → Half, x 0 = 0x0000 ∧ (∀ k, k < s.buflen.toNat → x (k + 1) = crcByte (x k) (byteAt s.buf k)) ∧
      t.crc = x s.buflen.toNat

/-- 40_crc.md R102: CRC.INIT sets `CRC` to `0x0000` and changes nothing else. -/
def Obligations.CrcInitClearsTheCrc : Prop :=
  ∀ s : State, ∃ t, exec .crcInit s = .next t ∧ Ends 0x90 0x00 false false s t ∧ KeepsOthers .crcInit s t ∧
    t.crcl = 0x00 ∧ t.crch = 0x00

/-- 40_crc.md R103: CRC.UPD feeds `DIN` to `CRC` as it is, low byte in `CRCL`, and changes nothing else. -/
def Obligations.CrcUpdFeedsDin : Prop :=
  ∀ s : State, ∃ t, exec .crcUpd s = .next t ∧ Ends 0x91 0x00 false false s t ∧ KeepsOthers .crcUpd s t ∧
    t.crcl.toNat + 256 * t.crch.toNat =
      (crcByte (BitVec.ofNat 16 (s.crcl.toNat + 256 * s.crch.toNat)) s.din).toNat

/-- 40_crc.md R105: CRC.VFY refuses a buffer of fewer than 2 bytes with `FrameTooShort`; otherwise `MATCH` says
whether the CRC of `BUF[0..n-3]`, which it leaves in `CRC`, is the one in the last two bytes, and `ERR = 0` either
way. -/
def Obligations.CrcVfyComparesTheLastTwoBytes : Prop :=
  ∀ s : State, s.buflen.toNat ≤ 32 →
    if s.buflen.toNat < 2 then RefusesWith .crcVfy 0x93 0x01 s
    else ∃ t, exec .crcVfy s = .next t ∧ KeepsOthers .crcVfy s t ∧
      t.crc = crc16 (s.buf.toList.take (s.buflen.toNat - 2)) ∧
      Ends 0x93 0x00
        (decide (byteAt s.buf (s.buflen.toNat - 2) = t.crcl ∧ byteAt s.buf (s.buflen.toNat - 1) = t.crch)) false s t

/-- 40_crc.md R106: CRC.APP refuses a buffer with no room with `BufferTooSmall`; otherwise it appends the CRC low
byte first, and every other byte of `BUF` is as before. -/
def Obligations.CrcAppAppendsTheCrc : Prop :=
  ∀ s : State,
    if s.buflen.toNat > 30 then RefusesWith .crcApp 0x94 0x0A s
    else ∃ t, exec .crcApp s = .next t ∧ Ends 0x94 0x00 false false s t ∧ KeepsOthers .crcApp s t ∧
      t.crc = crc16 (s.buf.toList.take s.buflen.toNat) ∧ t.buflen.toNat = s.buflen.toNat + 2 ∧
      byteAt t.buf s.buflen.toNat = t.crcl ∧ byteAt t.buf (s.buflen.toNat + 1) = t.crch ∧
      ∀ i : Fin 32, i.val ≠ s.buflen.toNat → i.val ≠ s.buflen.toNat + 1 → t.buf[i] = s.buf[i]

/-- 40_crc.md R108, the residue law: the CRC of a string followed by its own CRC, low byte first, is `0x0000`. -/
def Obligations.CrcResidueIsZero : Prop :=
  ∀ s : List Byte, crc16 (s ++ le16 (crc16 s)) = 0x0000

/-- 40_crc.md R106: "After CRC.APP, CRC.VFY gives `MATCH = 1` and CRC.BUF gives `0x0000`". -/
def Obligations.AppendedCrcVerifies : Prop :=
  ∀ s t : State, exec .crcApp s = .next t → t.err = 0x00 →
    (∃ u, exec .crcVfy t = .next u ∧ u.matchFlag = true ∧ u.err = 0x00 ∧ u.crc = t.crc) ∧
    (∃ u, exec .crcBuf t = .next u ∧ u.crc = 0x0000 ∧ u.err = 0x00)

/-! ### IV checksum -/

/-- 41_iv_checksum.md R112: IVC.INIT clears both accumulators and changes nothing else. -/
def Obligations.IvcInitClearsTheAccumulators : Prop :=
  ∀ s : State, ∃ t, exec .ivcInit s = .next t ∧ Ends 0xA0 0x00 false false s t ∧ KeepsOthers .ivcInit s t ∧
    t.c1 = 0x00 ∧ t.c2 = 0x00

/-- 41_iv_checksum.md R113 with the listing of R110 in natural numbers: `t` from the old `c2`, the carry from the old
`c1`, every shift masked to 8 bits. -/
def Obligations.IvcUpdIsTheListing : Prop :=
  ∀ s : State, ∃ t, exec .ivcUpd s = .next t ∧ Ends 0xA1 0x00 false false s t ∧ KeepsOthers .ivcUpd s t ∧
    let m := s.din.toNat ^^^ s.c2.toNat
    let sh := (2 * s.c1.toNat) % 256 + (if 128 ≤ m then 1 else 0)
    if s.c1.toNat < 128 then t.c1.toNat = sh ∧ t.c2.toNat = (2 * m) % 256
    else t.c1.toNat = sh ^^^ 0x55 ∧ t.c2.toNat = ((2 * m) ^^^ 0x5B) % 256

/-- 41_iv_checksum.md R110, note 4: `(c1, c2)` behaves as one 16-bit register `c1:c2` into whose low byte the byte is
XORed, shifted left by one, with `0x555B` XORed in when a 1 falls off the top. -/
def Obligations.ChecksumIsAShiftRegister : Prop :=
  ∀ c1 c2 b : Byte,
    fromLe16 (ivckByte (c1, c2) b).2 (ivckByte (c1, c2) b).1 =
      ((fromLe16 c2 c1 ^^^ b.setWidth 16) <<< 1) ^^^ (if c1.msb then 0x555B else 0x0000)

/-! ### AES -/

/-- 42_aes.md R130: the two example vectors of FIPS-197. -/
def Obligations.CipherReproducesTheStandardsVectors : Prop :=
  aes128 #v[0x2B, 0x7E, 0x15, 0x16, 0x28, 0xAE, 0xD2, 0xA6, 0xAB, 0xF7, 0x15, 0x88, 0x09, 0xCF, 0x4F, 0x3C]
      #v[0x32, 0x43, 0xF6, 0xA8, 0x88, 0x5A, 0x30, 0x8D, 0x31, 0x31, 0x98, 0xA2, 0xE0, 0x37, 0x07, 0x34] =
    #v[0x39, 0x25, 0x84, 0x1D, 0x02, 0xDC, 0x09, 0xFB, 0xDC, 0x11, 0x85, 0x97, 0x19, 0x6A, 0x0B, 0x32] ∧
  aes128 #v[0x00, 0x01, 0x02, 0x03, 0x04, 0x05, 0x06, 0x07, 0x08, 0x09, 0x0A, 0x0B, 0x0C, 0x0D, 0x0E, 0x0F]
      #v[0x00, 0x11, 0x22, 0x33, 0x44, 0x55, 0x66, 0x77, 0x88, 0x99, 0xAA, 0xBB, 0xCC, 0xDD, 0xEE, 0xFF] =
    #v[0x69, 0xC4, 0xE0, 0xD8, 0x6A, 0x7B, 0x04, 0x30, 0xD8, 0xCD, 0xB7, 0x80, 0x70, 0xB4, 0xC5, 0x5A]

/-- 42_aes.md R123: the S-box table is its definition: the affine map of the inverse in the field, 0 for 0. -/
def Obligations.SboxIsTheAffineMapOfTheInverse : Prop :=
  sbox 0x00 = sboxAffine 0x00 ∧ ∀ x : Byte, x ≠ 0x00 → ∃ y : Byte, gfTimes x y = 0x01 ∧ sbox x = sboxAffine y

/-- 42_aes.md R127: ShiftRows as the list of old indices. R128: MixColumns, each column by the matrix, in the field's
multiplication. -/
def Obligations.RowAndColumnStepsAreTheStandards : Prop :=
  (∀ s : Block, shiftRows s = #v[s[0], s[5], s[10], s[15], s[4], s[9], s[14], s[3], s[8], s[13], s[2], s[7], s[12],
    s[1], s[6], s[11]]) ∧
  ∀ (s : Block) (r c : Fin 4),
    byteAt (mixColumns s) (r + 4 * c) =
      gfTimes (byteAt s (r + 4 * c)) 0x02 ^^^ gfTimes (byteAt s ((r + 1) % 4 + 4 * c)) 0x03 ^^^
        byteAt s ((r + 2) % 4 + 4 * c) ^^^ byteAt s ((r + 3) % 4 + 4 * c)

/-- 42_aes.md R131: AES.ENC leaves `AES128(KEY, AIN)` in `AOUT`, whatever `CFG` holds, and changes nothing else. -/
def Obligations.AesEncEncryptsAin : Prop :=
  ∀ s : State, ∃ t, exec .aesEnc s = .next t ∧ Ends 0xB0 0x00 false false s t ∧ KeepsOthers .aesEnc s t ∧
    t.aout = aes128 s.key s.ain

/-! ### IV, MAC and key wrap -/

/-- 43_iv_builder.md R136 with R135: IV.BUILD refuses `PLEN > 21`, then a 2W mode without challenge; otherwise `AIN`
is the IV, `C1` and `C2` its bytes 8 and 9. -/
def Obligations.IvBuildBuildsTheIv : Prop :=
  ∀ s : State,
    if s.plen.toNat > 21 then RefusesWith .ivBuild 0xC0 0x07 s
    else if s.cfgMode = true ∧ s.cfgChalv = false then RefusesWith .ivBuild 0xC0 0x06 s
    else ∃ t, exec .ivBuild s = .next t ∧ Ends 0xC0 0x00 false false s t ∧ KeepsOthers .ivBuild s t ∧
      IsIvOf s.cfgMode s t.ain ∧ t.c1 = t.ain[8] ∧ t.c2 = t.ain[9]

/-- 44_mac_keywrap.md R141: MAC.GEN refuses as IV.BUILD does; otherwise `MACC` is the first six bytes of
`AES128(KEY, IV)`, which is left in `AOUT`. -/
def Obligations.MacGenTruncatesTheCiphertext : Prop :=
  ∀ s : State,
    if s.plen.toNat > 21 then RefusesWith .macGen 0xD0 0x07 s
    else if s.cfgMode = true ∧ s.cfgChalv = false then RefusesWith .macGen 0xD0 0x06 s
    else ∃ t, exec .macGen s = .next t ∧ Ends 0xD0 0x00 false false s t ∧ KeepsOthers .macGen s t ∧
      IsIvOf s.cfgMode s t.ain ∧ t.c1 = t.ain[8] ∧ t.c2 = t.ain[9] ∧ t.aout = aes128 s.key t.ain ∧
      ∀ j : Fin 6, t.macc[j] = t.aout[j.val]

/-- 44_mac_keywrap.md R143: MAC.VFY refuses as IV.BUILD does; otherwise it computes what MAC.GEN computes, and `MATCH`
says whether all six bytes of `MACC` and `MAC` are equal, with `ERR = 0` either way. -/
def Obligations.MacVfyComparesAllSixBytes : Prop :=
  ∀ s : State,
    if s.plen.toNat > 21 then RefusesWith .macVfy 0xD1 0x07 s
    else if s.cfgMode = true ∧ s.cfgChalv = false then RefusesWith .macVfy 0xD1 0x06 s
    else ∃ t, exec .macVfy s = .next t ∧ KeepsOthers .macVfy s t ∧
      IsIvOf s.cfgMode s t.ain ∧ t.c1 = t.ain[8] ∧ t.c2 = t.ain[9] ∧ t.aout = aes128 s.key t.ain ∧
      (∀ j : Fin 6, t.macc[j] = t.aout[j.val]) ∧
      Ends 0xD1 0x00 (decide (∀ j : Fin 6, t.macc[j] = s.mac[j])) false s t

/-- 44_mac_keywrap.md R142: the OR-accumulated comparison is true exactly when all six byte pairs are equal. -/
def Obligations.ComparisonAcceptsExactlyEqualMacs : Prop :=
  ∀ a b : Vector Byte 6, ctEq6 a b = true ↔ ∀ i : Fin 6, a[i] = b[i]

/-- 43_iv_builder.md R135, R136: the MAC depends on the mode, opcode, parameters, rolling code (1W) or challenge (2W)
and key alone. Two states that agree on those, and in 2W on whether a challenge is supplied (`CFG.CHALV`), give the same
outcome and the same MAC, whatever `CFG.KEYV`, in 1W `CFG.CHALV`, their control bytes, addresses and every other register
hold. -/
def Obligations.MacDependsOnlyOnItsInputs : Prop :=
  ∀ s u : State, s.cfgMode = u.cfgMode → (s.cfgMode = true → s.cfgChalv = u.cfgChalv) → s.key = u.key →
    s.opc = u.opc → s.plen = u.plen →
    (∀ i : Fin 21, i.val < s.plen.toNat → s.params[i] = u.params[i]) →
    (s.cfgMode = false → s.rcl = u.rcl ∧ s.rch = u.rch) → (s.cfgMode = true → s.chal = u.chal) →
    ∃ s' u', exec .macGen s = .next s' ∧ exec .macGen u = .next u' ∧ s'.err = u'.err ∧
      (s'.err = 0x00 → s'.macc = u'.macc ∧ s'.aout = u'.aout ∧ s'.ain = u'.ain)

/-- 44_mac_keywrap.md R145 with R144: KW.1W repeats the node address to fill the IV, encrypts it under the transfer
key and XORs the result into `KEY`, in `WKEY`. -/
def Obligations.KeyWrapOneWayMasksTheKey : Prop :=
  ∀ s : State, ∃ t, exec .kw1W s = .next t ∧ Ends 0xE0 0x00 false false s t ∧ KeepsOthers .kw1W s t ∧
    (∀ i : Fin 16, t.ain[i] = byteAt s.node (i.val % 3)) ∧
    t.aout = aes128
      #v[0x34, 0xC3, 0x46, 0x6E, 0xD8, 0x8F, 0x4E, 0x8E, 0x16, 0xAA, 0x47, 0x39, 0x49, 0x88, 0x43, 0x73] t.ain ∧
    ∀ i : Fin 16, t.wkey[i] = s.key[i] ^^^ t.aout[i]

/-- 44_mac_keywrap.md R146 with R144: KW.2W refuses without a challenge; otherwise the IV is ten bytes `0x55` and the
challenge, and the rest is as in KW.1W, whatever `CFG.MODE` says. -/
def Obligations.KeyWrapTwoWayMasksTheKey : Prop :=
  ∀ s : State,
    if s.cfgChalv = false then RefusesWith .kw2W 0xE1 0x06 s
    else ∃ t, exec .kw2W s = .next t ∧ Ends 0xE1 0x00 false false s t ∧ KeepsOthers .kw2W s t ∧
      (∀ i : Fin 10, t.ain[i.val] = 0x55) ∧ (∀ j : Fin 6, t.ain[10 + j.val] = s.chal[j]) ∧
      t.aout = aes128
        #v[0x34, 0xC3, 0x46, 0x6E, 0xD8, 0x8F, 0x4E, 0x8E, 0x16, 0xAA, 0x47, 0x39, 0x49, 0x88, 0x43, 0x73] t.ain ∧
      ∀ i : Fin 16, t.wkey[i] = s.key[i] ^^^ t.aout[i]

/-- 44_mac_keywrap.md R147, as the host sees it (R145, R146): wrapping, loading the wrapped key into `KEY` and
wrapping again with the same `NODE` (or `CHAL`) gives the original key. -/
def Obligations.WrappingTwiceGivesTheKeyBack : Prop :=
  ∀ s t u : State,
    (exec .kw1W s = .next t → exec .kw1W (t.withKey t.wkey) = .next u → u.wkey = s.key) ∧
    (s.cfgChalv = true → exec .kw2W s = .next t → exec .kw2W (t.withKey t.wkey) = .next u → u.wkey = s.key)

/-! ### Frame codec -/

/-- 45_frame_codec.md R150, R154: FRM.BUILD of an armed block, with parameters that fit and, in 2W, a challenge,
completes: the control bytes, the MAC of the IV, and the frame laid out in `BUF` with its CRC; `BUF[tl..31]` as
before. -/
def Obligations.FrmBuildBuildsTheFrame : Prop :=
  ∀ s : State, s.initFlag = true → s.plen.toNat ≤ 21 → 17 + s.plen.toNat + rollingLength s.cfgMode ≤ 32 →
    (s.cfgMode = true → s.cfgChalv = true) →
    ∃ t, exec .frmBuild s = .next t ∧ Ends 0xF0 0x00 false false s t ∧ KeepsOthers .frmBuild s t ∧
      t.ctrl0.toNat = (if s.cfgMode then 32 else 0) + (6 + s.plen.toNat + rollingLength s.cfgMode) ∧
      t.ctrl1 = 0x00 ∧ IsIvOf s.cfgMode s t.ain ∧ t.c1 = t.ain[8] ∧ t.c2 = t.ain[9] ∧
      t.aout = aes128 s.key t.ain ∧ (∀ j : Fin 6, t.macc[j] = t.aout[j.val]) ∧ t.mac = t.macc ∧
      t.HoldsFrame s.cfgMode s.plen.toNat ∧
      t.crc = crc16 (t.buf.toList.take (15 + s.plen.toNat + rollingLength s.cfgMode)) ∧ t.fcrc = t.crc ∧
      t.buflen = t.tlen ∧ t.tlen.toNat = 11 + t.ctrl0.toNat % 32 ∧
      ∀ i : Fin 32, 17 + s.plen.toNat + rollingLength s.cfgMode ≤ i.val → t.buf[i] = s.buf[i]

/-- 45_frame_codec.md R150, 60_exceptions.md R186: the errors of FRM.BUILD, the one tested first winning. -/
def Obligations.FrmBuildRefusesInOrder : Prop :=
  ∀ s : State,
    (s.initFlag = false → RefusesWith .frmBuild 0xF0 0x09 s) ∧
    (s.initFlag = true → s.plen.toNat > 21 → RefusesWith .frmBuild 0xF0 0x07 s) ∧
    (s.initFlag = true → s.plen.toNat ≤ 21 → 17 + s.plen.toNat + rollingLength s.cfgMode > 32 →
      RefusesWith .frmBuild 0xF0 0x0A s) ∧
    (s.initFlag = true → 17 + s.plen.toNat + rollingLength s.cfgMode ≤ 32 → s.cfgMode = true → s.cfgChalv = false →
      RefusesWith .frmBuild 0xF0 0x06 s)

/-- 45_frame_codec.md R153, R154: FRM.SER of an armed block, with fields that fit and a length field that agrees,
serializes the field registers as they are and recomputes only the CRC. -/
def Obligations.FrmSerSerializesTheFields : Prop :=
  ∀ s : State, s.initFlag = true → s.plen.toNat ≤ 21 → 17 + s.plen.toNat + rollingLength (s.ctrl0.getLsbD 5) ≤ 32 →
    s.ctrl0.toNat % 32 + 11 = 17 + s.plen.toNat + rollingLength (s.ctrl0.getLsbD 5) →
    ∃ t, exec .frmSer s = .next t ∧ Ends 0xF1 0x00 false false s t ∧ KeepsOthers .frmSer s t ∧
      t.HoldsFrame (s.ctrl0.getLsbD 5) s.plen.toNat ∧
      t.crc = crc16 (t.buf.toList.take (15 + s.plen.toNat + rollingLength (s.ctrl0.getLsbD 5))) ∧ t.fcrc = t.crc ∧
      t.buflen = t.tlen ∧
      ∀ i : Fin 32, 17 + s.plen.toNat + rollingLength (s.ctrl0.getLsbD 5) ≤ i.val → t.buf[i] = s.buf[i]

/-- 45_frame_codec.md R153, 60_exceptions.md R186: the errors of FRM.SER, the one tested first winning. -/
def Obligations.FrmSerRefusesInOrder : Prop :=
  ∀ s : State,
    (s.initFlag = false → RefusesWith .frmSer 0xF1 0x09 s) ∧
    (s.initFlag = true → s.plen.toNat > 21 → RefusesWith .frmSer 0xF1 0x07 s) ∧
    (s.initFlag = true → s.plen.toNat ≤ 21 → 17 + s.plen.toNat + rollingLength (s.ctrl0.getLsbD 5) > 32 →
      RefusesWith .frmSer 0xF1 0x0A s) ∧
    (s.initFlag = true → 17 + s.plen.toNat + rollingLength (s.ctrl0.getLsbD 5) ≤ 32 →
      s.ctrl0.toNat % 32 + 11 ≠ 17 + s.plen.toNat + rollingLength (s.ctrl0.getLsbD 5) →
      RefusesWith .frmSer 0xF1 0x03 s)

/-- 45_frame_codec.md R155: FRM.PARSE of an armed block, on a buffer whose length field fits, completes: every field
register is the bytes of the layout, `TRUNC` says whether bytes were left over, and `PARAMS` beyond `PLEN`, and
`RCL`, `RCH` of a 2W frame, are as before. -/
def Obligations.FrmParseLoadsTheFields : Prop :=
  ∀ s : State, s.initFlag = true → 11 ≤ s.buflen.toNat → s.buflen.toNat ≤ 32 →
    (byteAt s.buf 0).toNat % 32 + 11 ≤ s.buflen.toNat →
    17 + rollingLength ((byteAt s.buf 0).getLsbD 5) ≤ (byteAt s.buf 0).toNat % 32 + 11 →
    ∃ t, exec .frmParse s = .next t ∧ KeepsOthers .frmParse s t ∧
      Ends 0xF2 0x00 false (decide ((byteAt s.buf 0).toNat % 32 + 11 < s.buflen.toNat)) s t ∧
      t.HoldsFrame ((byteAt s.buf 0).getLsbD 5)
        ((byteAt s.buf 0).toNat % 32 - 6 - rollingLength ((byteAt s.buf 0).getLsbD 5)) ∧
      (∀ i : Fin 21, t.plen.toNat ≤ i.val → t.params[i] = s.params[i]) ∧
      ((byteAt s.buf 0).getLsbD 5 = true → t.rcl = s.rcl ∧ t.rch = s.rch)

/-- 45_frame_codec.md R155, R157, 60_exceptions.md R186: the errors of `parse()` in FRM.PARSE and FRM.VALID, the one
tested first winning: not armed, fewer than 11 bytes, a length field above 32, a buffer shorter than the length
field says, a length that leaves a negative parameter length. -/
def Obligations.ParseRefusesInOrder : Prop :=
  ∀ (s : State) (i : Instr) (c : Byte), (i = .frmParse ∧ c = 0xF2) ∨ (i = .frmValid ∧ c = 0xF3) →
    if s.initFlag = false then RefusesWith i c 0x09 s
    else if s.buflen.toNat < 11 then RefusesWith i c 0x01 s
    else if (byteAt s.buf 0).toNat % 32 + 11 > 32 then RefusesWith i c 0x02 s
    else if s.buflen.toNat < (byteAt s.buf 0).toNat % 32 + 11 then RefusesWith i c 0x03 s
    else if (byteAt s.buf 0).toNat % 32 + 11 < 17 + rollingLength ((byteAt s.buf 0).getLsbD 5) then
      RefusesWith i c 0x03 s
    else True

/-- 45_frame_codec.md R157: FRM.VALID after a parse that succeeds. `p` is what FRM.PARSE leaves. The fields, `TLEN`
and `TRUNC` are the parse's and `CRC` is recomputed over `BUF[0..tl-3]`; then `BadCrc`, `ChallengeRequired`, the MAC
stage when `KEYV = 1` with `BadMac`, or acceptance, in that order. -/
def Obligations.FrmValidTestsCrcChallengeMac : Prop :=
  ∀ s p : State, exec .frmParse s = .next p → p.err = 0x00 →
    ∃ t, exec .frmValid s = .next t ∧
      t.crc = crc16 (s.buf.toList.take (p.tlen.toNat - 2)) ∧
      Keeps (fun r => endingReg r || (commandWrites .frmValid r && !commandWrites .frmParse r)) p t ∧
      (if t.crc ≠ p.fcrc then
        Ends 0xF3 0x04 false p.truncFlag s t ∧ Keeps (fun r => endingReg r || commandWrites .crcBuf r) p t
      else if p.ctrl0.getLsbD 5 = true ∧ s.cfgChalv = false then
        Ends 0xF3 0x06 false p.truncFlag s t ∧ Keeps (fun r => endingReg r || commandWrites .crcBuf r) p t
      else if s.cfgKeyv = true then
        IsIvOf (p.ctrl0.getLsbD 5) p t.ain ∧ t.c1 = t.ain[8] ∧ t.c2 = t.ain[9] ∧ t.aout = aes128 s.key t.ain ∧
        (∀ j : Fin 6, t.macc[j] = t.aout[j.val]) ∧
        (if (∀ j : Fin 6, t.macc[j] = p.mac[j]) then Ends 0xF3 0x00 true p.truncFlag s t
         else Ends 0xF3 0x05 false p.truncFlag s t)
      else
        Ends 0xF3 0x00 true p.truncFlag s t ∧ Keeps (fun r => endingReg r || commandWrites .crcBuf r) p t)

/-- 45_frame_codec.md R157, acceptance in terms of the buffer alone: an armed FRM.VALID of a buffer that begins with a
frame of mode `m` with `p` parameter bytes, whose stored CRC is that of the bytes before it, whose 2W frame has a
challenge, and whose MAC bytes are the first six of the cipher of the frame's IV when a key is supplied, completes
with `MATCH = 1` and `ERR = 0`; `TRUNC` says whether bytes were left over. -/
def Obligations.FrmValidAcceptsAGoodFrame : Prop :=
  ∀ (s : State) (m : Bool) (p : Nat), s.initFlag = true → (byteAt s.buf 0).getLsbD 5 = m →
    (byteAt s.buf 0).toNat % 32 = 6 + p + rollingLength m →
    17 + p + rollingLength m ≤ s.buflen.toNat → s.buflen.toNat ≤ 32 →
    crc16 (s.buf.toList.take (15 + p + rollingLength m)) =
      fromLe16 (byteAt s.buf (15 + p + rollingLength m)) (byteAt s.buf (16 + p + rollingLength m)) →
    (m = true → s.cfgChalv = true) →
    (s.cfgKeyv = true → ∀ j : Fin 6, byteAt s.buf (9 + p + rollingLength m + j) =
      (aes128 s.key (iv m ((s.buf.toList.drop 8).take (p + 1))
        (fromLe16 (byteAt s.buf (9 + p)) (byteAt s.buf (10 + p))) s.chal))[j.val]) →
    ∃ t, exec .frmValid s = .next t ∧ KeepsOthers .frmValid s t ∧ t.HoldsFrame m p ∧
      Ends 0xF3 0x00 true (decide (17 + p + rollingLength m < s.buflen.toNat)) s t ∧
      t.crc = crc16 (s.buf.toList.take (15 + p + rollingLength m))

/-- The source's acceptance rule in 45_frame_codec.md R157: a frame is accepted (`MATCH = 1`) if and only if the block
is armed and the buffer parses, the CRC over the frame without its last two bytes is the stored one, a 2W frame has
a challenge, and, when a key is supplied, the frame's MAC is the first six bytes of the cipher of its IV. -/
def Obligations.FrameIsAcceptedIffItsTestsHold : Prop :=
  ∀ s t p : State, exec .frmValid s = .next t → exec .frmParse s = .next p →
    (t.matchFlag = true ↔
      p.err = 0x00 ∧ p.fcrc = crc16 (s.buf.toList.take (p.tlen.toNat - 2)) ∧
      (p.ctrl0.getLsbD 5 = true → s.cfgChalv = true) ∧
      (s.cfgKeyv = true → ∃ block : Vector Byte 16, IsIvOf (p.ctrl0.getLsbD 5) p block ∧
        ∀ j : Fin 6, p.mac[j] = (aes128 s.key block)[j.val]))

/-- 45_frame_codec.md R159 item 1, "`parse(serialize(F)) == F`": after a successful FRM.BUILD, FRM.PARSE completes
with `TRUNC = 0` and leaves every register but `CMD` as FRM.BUILD left it. -/
def Obligations.ParsingABuiltFrameGivesItBack : Prop :=
  ∀ s t : State, exec .frmBuild s = .next t → t.err = 0x00 →
    ∃ u, exec .frmParse t = .next u ∧ u.err = 0x00 ∧ u.truncFlag = false ∧ (∀ r, r ≠ .cmd → u.get r = t.get r) ∧
      u.frameValue = t.frameValue

/-- 45_frame_codec.md R159 item 1, the converse: FRM.SER after a successful FRM.PARSE of a buffer whose CRC is correct
completes and leaves the whole of `BUF` as it was. -/
def Obligations.SerializingAParsedFrameGivesItsBytes : Prop :=
  ∀ s p : State, exec .frmParse s = .next p → p.err = 0x00 →
    p.fcrc = crc16 (s.buf.toList.take (p.tlen.toNat - 2)) →
    ∃ q, exec .frmSer p = .next q ∧ q.err = 0x00 ∧ q.buf = s.buf

/-- 45_frame_codec.md R159 item 3: FRM.VALID accepts what FRM.BUILD built, with the same key and, for a 2W frame, the
same challenge and `CHALV = 1`, whatever the other bits of `CFG`; with `KEYV = 1` among them. -/
def Obligations.BuiltFramesValidate : Prop :=
  ∀ (s t : State) (c : Byte), exec .frmBuild s = .next t → t.err = 0x00 →
    (t.ctrl0.getLsbD 5 = true → c.getLsbD 2 = true) →
    ∃ u, exec .frmValid (t.withCfg c) = .next u ∧ u.err = 0x00 ∧ u.matchFlag = true ∧ u.truncFlag = false

/-- 45_frame_codec.md R159 item 4: a single flipped bit anywhere in a built frame outside `ctrl0[5:0]` makes FRM.VALID
end with `BadCrc` and `MATCH = 0`, whatever the key, the challenge and `CFG` are when the frame is validated (a 2W frame
without a challenge among them). -/
def Obligations.SingleBitFlipsAreRejected : Prop :=
  ∀ (s t : State) (i : Fin 32) (j : Nat) (c : Byte) (key : Vector Byte 16) (chal : Vector Byte 6),
    exec .frmBuild s = .next t → t.err = 0x00 →
    i.val < t.tlen.toNat → j < 8 → (i.val = 0 → 6 ≤ j) →
    ∃ u, exec .frmValid ((((t.withBuf (t.buf.set i (t.buf[i] ^^^ (0x01#8 <<< j)))).withCfg c).withKey key).withChal
        chal) = .next u ∧
      u.err = 0x04 ∧ u.matchFlag = false
end

