-- ==== Sys2Proof/Laws/Bytes.lean ====
section
/-! SUPPORT. Bits, byte pairs and byte arrays. -/
namespace Sys2Proof.Laws

open Sys2Proof.Machine

/-! ### Bits of a byte -/

/-- Writing bit `k` of a byte changes that bit alone. -/
theorem withBit_getLsbD (b : Byte) (k j : Nat) (v : Bool) (hk : k < 8) :
    (withBit b k v).getLsbD j = if j = k then v else b.getLsbD j := by
  unfold withBit
  by_cases hj : j < 8
  · cases v <;> simp [hj] <;> by_cases h : j = k <;> simp [h] <;> omega
  · have h1 : b.getLsbD j = false := BitVec.getLsbD_of_ge _ _ (by omega)
    have h2 : j ≠ k := by omega
    cases v <;> simp [BitVec.getLsbD_shiftLeft, hj, h1, h2]

/-- The same by index. -/
theorem withBit_getElem (b : Byte) (k j : Nat) (v : Bool) (hk : k < 8) (hj : j < 8) :
    (withBit b k v)[j] = if j = k then v else b[j] := by
  simpa [BitVec.getLsbD_eq_getElem, hj] using withBit_getLsbD b k j v hk

/-! ### 16-bit values as byte pairs -/

/-- `from_le16` in natural numbers (00_scope.md R8). -/
theorem fromLe16_toNat (lo hi : Byte) : (fromLe16 lo hi).toNat = lo.toNat + 256 * hi.toNat := by
  have h1 : (hi.setWidth 16 <<< 8 : Half).toNat = 256 * hi.toNat := by
    simp [Nat.shiftLeft_eq]
    omega
  have h2 := Nat.two_pow_add_eq_or_of_lt (i := 8) (b := lo.toNat) (by omega) hi.toNat
  unfold fromLe16
  rw [BitVec.toNat_or, h1]
  simp at h2 ⊢
  rw [show lo.toNat % 65536 = lo.toNat by omega, Nat.or_comm, ← h2]
  omega

@[simp] theorem loByte_fromLe16 (lo hi : Byte) : loByte (fromLe16 lo hi) = lo := by
  apply BitVec.eq_of_getLsbD_eq
  intro i hi'
  simp only [loByte, fromLe16, BitVec.getLsbD_setWidth, BitVec.getLsbD_or, BitVec.getLsbD_shiftLeft]
  have : i < 16 := by omega
  simp [hi', this]

@[simp] theorem hiByte_fromLe16 (lo hi : Byte) : hiByte (fromLe16 lo hi) = hi := by
  apply BitVec.eq_of_getLsbD_eq
  intro i hi'
  simp only [hiByte, fromLe16, BitVec.getLsbD_setWidth, BitVec.getLsbD_ushiftRight, BitVec.getLsbD_or,
    BitVec.getLsbD_shiftLeft]
  have h1 : 8 + i < 16 := by omega
  simp [hi', h1]
  intro h; omega

@[simp] theorem fromLe16_loByte_hiByte (v : Half) : fromLe16 (loByte v) (hiByte v) = v := by
  apply BitVec.eq_of_getLsbD_eq
  intro i hi'
  simp only [loByte, hiByte, fromLe16, BitVec.getLsbD_setWidth, BitVec.getLsbD_ushiftRight, BitVec.getLsbD_or,
    BitVec.getLsbD_shiftLeft]
  by_cases h : i < 8
  · simp [h, hi']
  · have h3 : 8 + (i - 8) = i := by omega
    have h4 : i - 8 < 8 := by omega
    simp [h, hi', h3, h4]
    intro _; omega

/-- Equal byte pairs make equal values, and only they do. -/
theorem fromLe16_inj (a b c d : Byte) : fromLe16 a b = fromLe16 c d ↔ a = c ∧ b = d := by
  constructor
  · intro h
    have h1 := congrArg loByte h
    have h2 := congrArg hiByte h
    simp at h1 h2
    exact ⟨h1, h2⟩
  · rintro ⟨rfl, rfl⟩; rfl

@[simp] theorem setCrc_crc (v : Half) (s : State) : (s.setCrc v).crc = v := by simp [State.setCrc, State.crc]

@[simp] theorem setFcrc_fcrc (v : Half) (s : State) : (s.setFcrc v).fcrc = v := by simp [State.setFcrc, State.fcrc]

@[simp] theorem length_le16 (v : Half) : (le16 v).length = 2 := rfl

/-! ### Byte arrays -/

/-- What `patch` leaves in element `i`. -/
theorem patch_getElem {n : Nat} (v : Vector Byte n) (off : Nat) (bytes : List Byte) (i : Nat) (h : i < n) :
    (patch v off bytes)[i] = if off ≤ i then (bytes[i - off]?).getD v[i] else v[i] := by
  simp [patch]

/-- An element inside the written range takes its byte. -/
theorem patch_getElem_of_mem {n : Nat} (v : Vector Byte n) (off : Nat) (bytes : List Byte) (i : Nat) (h : i < n)
    (h1 : off ≤ i) (h2 : i - off < bytes.length) : (patch v off bytes)[i] = bytes[i - off] := by
  simp [patch_getElem, h1, h2]

/-- An element outside the written range is kept. -/
theorem patch_getElem_of_not_mem {n : Nat} (v : Vector Byte n) (off : Nat) (bytes : List Byte) (i : Nat) (h : i < n)
    (h1 : i < off ∨ off + bytes.length ≤ i) : (patch v off bytes)[i] = v[i] := by
  rw [patch_getElem]
  split
  · have : bytes.length ≤ i - off := by omega
    simp [this]
  · rfl

/-- The array up to the end of what was written. -/
theorem take_patch {n : Nat} (v : Vector Byte n) (off : Nat) (bytes : List Byte) (h : off + bytes.length ≤ n) :
    (patch v off bytes).toList.take (off + bytes.length) = v.toList.take off ++ bytes := by
  apply List.ext_getElem
  · simp; omega
  · intro i h1 h2
    simp only [List.getElem_take, Vector.getElem_toList]
    rw [List.getElem_append]
    simp at h1
    split
    · rename_i h3
      simp at h3
      rw [patch_getElem_of_not_mem _ _ _ _ _ (by omega)]
      simp
    · rename_i h3
      simp at h3
      have hm : min off n = off := by omega
      rw [patch_getElem_of_mem _ _ _ _ _ (by omega) (by omega)]
      simp [hm]

/-- Inside its bounds `byteAt` is the element. -/
theorem byteAt_of_lt {n : Nat} (v : Vector Byte n) (i : Nat) (h : i < n) : byteAt v i = v[i] := by
  simp [byteAt, List.getD, h]

end Sys2Proof.Laws
end

