-- ==== Sys2Proof/Laws/Crc.lean ====
section
/-! SUPPORT. The CRC step and the CRC of a byte string; what CRC.VFY and CRC.APP do in each case. -/
namespace Sys2Proof.Laws

open Sys2Proof.Machine

/-! ### One iteration and one byte (40_crc.md R100) -/

/-- One iteration in natural numbers. -/
theorem crcShift_toNat (c : Half) :
    (crcShift c).toNat = if c.toNat % 2 = 1 then (c.toNat / 2) ^^^ 0x8408 else c.toNat / 2 := by
  have h0 : c.getLsbD 0 = decide (c.toNat % 2 = 1) := by simp [BitVec.getLsbD, Nat.testBit_zero]
  unfold crcShift
  rw [h0]
  by_cases h : c.toNat % 2 = 1 <;> simp [h, crcPoly, BitVec.toNat_ushiftRight, Nat.shiftRight_eq_div_pow]

/-- The last of `n + 1` iterations. -/
theorem crcShifts_succ : ∀ (n : Nat) (c : Half), crcShifts (n + 1) c = crcShift (crcShifts n c)
  | 0, _ => rfl
  | n + 1, c => by rw [crcShifts, crcShifts_succ n]; rfl

/-- An iteration loses nothing: the polynomial's top bit says which branch was taken. -/
theorem crcShift_injective {c d : Half} (h : crcShift c = crcShift d) : c = d := by
  have top : ∀ x : Half, (crcShift x).getLsbD 15 = x.getLsbD 0 := by
    intro x
    unfold crcShift
    cases hx : x.getLsbD 0 <;> simp [crcPoly]
  have h0 : c.getLsbD 0 = d.getLsbD 0 := by rw [← top c, ← top d, h]
  have hs : c >>> 1 = d >>> 1 := by
    unfold crcShift at h
    rw [h0] at h
    cases hd : d.getLsbD 0 <;> rw [hd] at h
    · simpa using h
    · simpa using congrArg (· ^^^ crcPoly) h
  apply BitVec.eq_of_getLsbD_eq
  intro i hi
  rcases i with _ | i
  · exact h0
  · simpa [Nat.add_comm] using congrArg (fun x => x.getLsbD i) hs

theorem crcShifts_injective : ∀ (n : Nat) {c d : Half}, crcShifts n c = crcShifts n d → c = d
  | 0, _, _, h => h
  | n + 1, _, _, h => crcShift_injective (crcShifts_injective n h)

/-- Different registers stay different when the same byte is fed to both. -/
theorem crcByte_injective_crc {c d : Half} {b : Byte} (h : crcByte c b = crcByte d b) : c = d := by
  have := crcShifts_injective 8 h
  simpa using congrArg (· ^^^ b.setWidth 16) this

/-- Different bytes fed to the same register leave it different. -/
theorem crcByte_injective_byte {c : Half} {a b : Byte} (h : crcByte c a = crcByte c b) : a = b := by
  have h1 := crcShifts_injective 8 h
  have h2 : a.setWidth 16 = b.setWidth 16 := by simpa using h1
  apply BitVec.eq_of_getLsbD_eq
  intro i hi
  have h3 := congrArg (fun x : Half => x.getLsbD i) h2
  have : i < 16 := by omega
  simpa [hi, this] using h3

/-- While only zeros are shifted out, the iterations are a plain shift. -/
theorem crcShifts_of_low_zero (n : Nat) (c : Half) (h : ∀ k, k < n → c.getLsbD k = false) :
    crcShifts n c = c >>> n := by
  induction n with
  | zero => simp [crcShifts]
  | succ n ih =>
    have h0 : (c >>> n).getLsbD 0 = false := by simpa using h n (by omega)
    rw [crcShifts_succ, ih fun k hk => h k (by omega), crcShift, h0]
    simp [← BitVec.shiftRight_add]

/-! ### Byte strings (40_crc.md R101) -/

/-- The CRC goes on from where it stands. -/
theorem crc16_append (a b : List Byte) : crc16 (a ++ b) = b.foldl crcByte (crc16 a) := by
  simp [crc16, List.foldl_append]

/-- The CRC of one more byte. -/
theorem crc16_snoc (a : List Byte) (b : Byte) : crc16 (a ++ [b]) = crcByte (crc16 a) b := by
  simp [crc16_append]

/-- Feeding the same string to different registers leaves them different. -/
theorem foldl_crcByte_injective : ∀ (bytes : List Byte) {c d : Half},
    bytes.foldl crcByte c = bytes.foldl crcByte d → c = d
  | [], _, _, h => h
  | _ :: bytes, _, _, h => crcByte_injective_crc (foldl_crcByte_injective bytes h)

/-- One changed byte changes the CRC. -/
theorem crc16_set_ne (bytes : List Byte) (i : Nat) (b : Byte) (h : i < bytes.length) (hb : b ≠ bytes[i]) :
    crc16 (bytes.set i b) ≠ crc16 bytes := by
  intro he
  have h1 : bytes.set i b = bytes.take i ++ b :: bytes.drop (i + 1) := List.set_eq_take_cons_drop b h
  have h2 : bytes = bytes.take i ++ bytes[i] :: bytes.drop (i + 1) := by simp
  rw [h1] at he
  conv at he => rhs; rw [h2]
  rw [crc16_append, crc16_append] at he
  exact hb (crcByte_injective_byte (foldl_crcByte_injective _ he))

/-! ### CRC.VFY and CRC.APP, case by case (40_crc.md R105, R106) -/

theorem crcVfy_of_lt {s : State} (h : s.buflen.toNat < 2) : crcVfy s = raise .frameTooShort s := by
  simp [crcVfy, h]

theorem crcVfy_of_ge {s : State} (h : 2 ≤ s.buflen.toNat) :
    crcVfy s = complete (((s.setCrc (crc16 (s.bufBytes (s.buflen.toNat - 2)))).setMatch
      (crc16 (s.bufBytes (s.buflen.toNat - 2)) ==
        fromLe16 (byteAt s.buf (s.buflen.toNat - 2)) (byteAt s.buf (s.buflen.toNat - 1)))).setTrunc false) :=
  if_neg (by omega)

theorem crcApp_of_gt {s : State} (h : 30 < s.buflen.toNat) : crcApp s = raise .bufferTooSmall s := by
  simp [crcApp, h]

theorem crcApp_of_le {s : State} (h : s.buflen.toNat ≤ 30) :
    crcApp s = completePlain { s.setCrc (crc16 (s.bufBytes s.buflen.toNat)) with
      buf := patch s.buf s.buflen.toNat (le16 (crc16 (s.bufBytes s.buflen.toNat)))
      buflen := BitVec.ofNat 8 (s.buflen.toNat + 2) } :=
  if_neg (by omega)

end Sys2Proof.Laws
end

