-- ==== Sys2Proof/Laws/State.lean ====
section
/-! SUPPORT. One lemma per field per update: what each named update of the state makes of each field. -/
namespace Sys2Proof.Laws

open Sys2Proof.Machine

/-! ### `CMD <- c` -/

@[simp] theorem setCmd_cmd (c : Byte) (s : State) : (State.setCmd c s).cmd = c := rfl
@[simp] theorem setCmd_status (c : Byte) (s : State) : (State.setCmd c s).status = s.status := rfl
@[simp] theorem setCmd_err (c : Byte) (s : State) : (State.setCmd c s).err = s.err := rfl
@[simp] theorem setCmd_cfg (c : Byte) (s : State) : (State.setCmd c s).cfg = s.cfg := rfl
@[simp] theorem setCmd_din (c : Byte) (s : State) : (State.setCmd c s).din = s.din := rfl
@[simp] theorem setCmd_buflen (c : Byte) (s : State) : (State.setCmd c s).buflen = s.buflen := rfl
@[simp] theorem setCmd_crcl (c : Byte) (s : State) : (State.setCmd c s).crcl = s.crcl := rfl
@[simp] theorem setCmd_crch (c : Byte) (s : State) : (State.setCmd c s).crch = s.crch := rfl
@[simp] theorem setCmd_c1 (c : Byte) (s : State) : (State.setCmd c s).c1 = s.c1 := rfl
@[simp] theorem setCmd_c2 (c : Byte) (s : State) : (State.setCmd c s).c2 = s.c2 := rfl
@[simp] theorem setCmd_ctrl0 (c : Byte) (s : State) : (State.setCmd c s).ctrl0 = s.ctrl0 := rfl
@[simp] theorem setCmd_ctrl1 (c : Byte) (s : State) : (State.setCmd c s).ctrl1 = s.ctrl1 := rfl
@[simp] theorem setCmd_dst (c : Byte) (s : State) : (State.setCmd c s).dst = s.dst := rfl
@[simp] theorem setCmd_src (c : Byte) (s : State) : (State.setCmd c s).src = s.src := rfl
@[simp] theorem setCmd_opc (c : Byte) (s : State) : (State.setCmd c s).opc = s.opc := rfl
@[simp] theorem setCmd_plen (c : Byte) (s : State) : (State.setCmd c s).plen = s.plen := rfl
@[simp] theorem setCmd_rcl (c : Byte) (s : State) : (State.setCmd c s).rcl = s.rcl := rfl
@[simp] theorem setCmd_rch (c : Byte) (s : State) : (State.setCmd c s).rch = s.rch := rfl
@[simp] theorem setCmd_mac (c : Byte) (s : State) : (State.setCmd c s).mac = s.mac := rfl
@[simp] theorem setCmd_fcrcl (c : Byte) (s : State) : (State.setCmd c s).fcrcl = s.fcrcl := rfl
@[simp] theorem setCmd_fcrch (c : Byte) (s : State) : (State.setCmd c s).fcrch = s.fcrch := rfl
@[simp] theorem setCmd_tlen (c : Byte) (s : State) : (State.setCmd c s).tlen = s.tlen := rfl
@[simp] theorem setCmd_params (c : Byte) (s : State) : (State.setCmd c s).params = s.params := rfl
@[simp] theorem setCmd_key (c : Byte) (s : State) : (State.setCmd c s).key = s.key := rfl
@[simp] theorem setCmd_ain (c : Byte) (s : State) : (State.setCmd c s).ain = s.ain := rfl
@[simp] theorem setCmd_aout (c : Byte) (s : State) : (State.setCmd c s).aout = s.aout := rfl
@[simp] theorem setCmd_chal (c : Byte) (s : State) : (State.setCmd c s).chal = s.chal := rfl
@[simp] theorem setCmd_macc (c : Byte) (s : State) : (State.setCmd c s).macc = s.macc := rfl
@[simp] theorem setCmd_node (c : Byte) (s : State) : (State.setCmd c s).node = s.node := rfl
@[simp] theorem setCmd_buf (c : Byte) (s : State) : (State.setCmd c s).buf = s.buf := rfl
@[simp] theorem setCmd_wkey (c : Byte) (s : State) : (State.setCmd c s).wkey = s.wkey := rfl
@[simp] theorem setCmd_pending (c : Byte) (s : State) : (State.setCmd c s).pending = s.pending := rfl
@[simp] theorem setCmd_observed (c : Byte) (s : State) : (State.setCmd c s).observed = s.observed := rfl

/-! ### `ERR <- e` -/

@[simp] theorem setErr_cmd (e : Byte) (s : State) : (State.setErr e s).cmd = s.cmd := rfl
@[simp] theorem setErr_status (e : Byte) (s : State) : (State.setErr e s).status = s.status := rfl
@[simp] theorem setErr_err (e : Byte) (s : State) : (State.setErr e s).err = e := rfl
@[simp] theorem setErr_cfg (e : Byte) (s : State) : (State.setErr e s).cfg = s.cfg := rfl
@[simp] theorem setErr_din (e : Byte) (s : State) : (State.setErr e s).din = s.din := rfl
@[simp] theorem setErr_buflen (e : Byte) (s : State) : (State.setErr e s).buflen = s.buflen := rfl
@[simp] theorem setErr_crcl (e : Byte) (s : State) : (State.setErr e s).crcl = s.crcl := rfl
@[simp] theorem setErr_crch (e : Byte) (s : State) : (State.setErr e s).crch = s.crch := rfl
@[simp] theorem setErr_c1 (e : Byte) (s : State) : (State.setErr e s).c1 = s.c1 := rfl
@[simp] theorem setErr_c2 (e : Byte) (s : State) : (State.setErr e s).c2 = s.c2 := rfl
@[simp] theorem setErr_ctrl0 (e : Byte) (s : State) : (State.setErr e s).ctrl0 = s.ctrl0 := rfl
@[simp] theorem setErr_ctrl1 (e : Byte) (s : State) : (State.setErr e s).ctrl1 = s.ctrl1 := rfl
@[simp] theorem setErr_dst (e : Byte) (s : State) : (State.setErr e s).dst = s.dst := rfl
@[simp] theorem setErr_src (e : Byte) (s : State) : (State.setErr e s).src = s.src := rfl
@[simp] theorem setErr_opc (e : Byte) (s : State) : (State.setErr e s).opc = s.opc := rfl
@[simp] theorem setErr_plen (e : Byte) (s : State) : (State.setErr e s).plen = s.plen := rfl
@[simp] theorem setErr_rcl (e : Byte) (s : State) : (State.setErr e s).rcl = s.rcl := rfl
@[simp] theorem setErr_rch (e : Byte) (s : State) : (State.setErr e s).rch = s.rch := rfl
@[simp] theorem setErr_mac (e : Byte) (s : State) : (State.setErr e s).mac = s.mac := rfl
@[simp] theorem setErr_fcrcl (e : Byte) (s : State) : (State.setErr e s).fcrcl = s.fcrcl := rfl
@[simp] theorem setErr_fcrch (e : Byte) (s : State) : (State.setErr e s).fcrch = s.fcrch := rfl
@[simp] theorem setErr_tlen (e : Byte) (s : State) : (State.setErr e s).tlen = s.tlen := rfl
@[simp] theorem setErr_params (e : Byte) (s : State) : (State.setErr e s).params = s.params := rfl
@[simp] theorem setErr_key (e : Byte) (s : State) : (State.setErr e s).key = s.key := rfl
@[simp] theorem setErr_ain (e : Byte) (s : State) : (State.setErr e s).ain = s.ain := rfl
@[simp] theorem setErr_aout (e : Byte) (s : State) : (State.setErr e s).aout = s.aout := rfl
@[simp] theorem setErr_chal (e : Byte) (s : State) : (State.setErr e s).chal = s.chal := rfl
@[simp] theorem setErr_macc (e : Byte) (s : State) : (State.setErr e s).macc = s.macc := rfl
@[simp] theorem setErr_node (e : Byte) (s : State) : (State.setErr e s).node = s.node := rfl
@[simp] theorem setErr_buf (e : Byte) (s : State) : (State.setErr e s).buf = s.buf := rfl
@[simp] theorem setErr_wkey (e : Byte) (s : State) : (State.setErr e s).wkey = s.wkey := rfl
@[simp] theorem setErr_pending (e : Byte) (s : State) : (State.setErr e s).pending = s.pending := rfl
@[simp] theorem setErr_observed (e : Byte) (s : State) : (State.setErr e s).observed = s.observed := rfl

/-! ### `STATUS.INIT <- v` -/

@[simp] theorem setInit_cmd (v : Bool) (s : State) : (State.setInit v s).cmd = s.cmd := rfl
@[simp] theorem setInit_status (v : Bool) (s : State) : (State.setInit v s).status = withBit s.status 0 v := rfl
@[simp] theorem setInit_err (v : Bool) (s : State) : (State.setInit v s).err = s.err := rfl
@[simp] theorem setInit_cfg (v : Bool) (s : State) : (State.setInit v s).cfg = s.cfg := rfl
@[simp] theorem setInit_din (v : Bool) (s : State) : (State.setInit v s).din = s.din := rfl
@[simp] theorem setInit_buflen (v : Bool) (s : State) : (State.setInit v s).buflen = s.buflen := rfl
@[simp] theorem setInit_crcl (v : Bool) (s : State) : (State.setInit v s).crcl = s.crcl := rfl
@[simp] theorem setInit_crch (v : Bool) (s : State) : (State.setInit v s).crch = s.crch := rfl
@[simp] theorem setInit_c1 (v : Bool) (s : State) : (State.setInit v s).c1 = s.c1 := rfl
@[simp] theorem setInit_c2 (v : Bool) (s : State) : (State.setInit v s).c2 = s.c2 := rfl
@[simp] theorem setInit_ctrl0 (v : Bool) (s : State) : (State.setInit v s).ctrl0 = s.ctrl0 := rfl
@[simp] theorem setInit_ctrl1 (v : Bool) (s : State) : (State.setInit v s).ctrl1 = s.ctrl1 := rfl
@[simp] theorem setInit_dst (v : Bool) (s : State) : (State.setInit v s).dst = s.dst := rfl
@[simp] theorem setInit_src (v : Bool) (s : State) : (State.setInit v s).src = s.src := rfl
@[simp] theorem setInit_opc (v : Bool) (s : State) : (State.setInit v s).opc = s.opc := rfl
@[simp] theorem setInit_plen (v : Bool) (s : State) : (State.setInit v s).plen = s.plen := rfl
@[simp] theorem setInit_rcl (v : Bool) (s : State) : (State.setInit v s).rcl = s.rcl := rfl
@[simp] theorem setInit_rch (v : Bool) (s : State) : (State.setInit v s).rch = s.rch := rfl
@[simp] theorem setInit_mac (v : Bool) (s : State) : (State.setInit v s).mac = s.mac := rfl
@[simp] theorem setInit_fcrcl (v : Bool) (s : State) : (State.setInit v s).fcrcl = s.fcrcl := rfl
@[simp] theorem setInit_fcrch (v : Bool) (s : State) : (State.setInit v s).fcrch = s.fcrch := rfl
@[simp] theorem setInit_tlen (v : Bool) (s : State) : (State.setInit v s).tlen = s.tlen := rfl
@[simp] theorem setInit_params (v : Bool) (s : State) : (State.setInit v s).params = s.params := rfl
@[simp] theorem setInit_key (v : Bool) (s : State) : (State.setInit v s).key = s.key := rfl
@[simp] theorem setInit_ain (v : Bool) (s : State) : (State.setInit v s).ain = s.ain := rfl
@[simp] theorem setInit_aout (v : Bool) (s : State) : (State.setInit v s).aout = s.aout := rfl
@[simp] theorem setInit_chal (v : Bool) (s : State) : (State.setInit v s).chal = s.chal := rfl
@[simp] theorem setInit_macc (v : Bool) (s : State) : (State.setInit v s).macc = s.macc := rfl
@[simp] theorem setInit_node (v : Bool) (s : State) : (State.setInit v s).node = s.node := rfl
@[simp] theorem setInit_buf (v : Bool) (s : State) : (State.setInit v s).buf = s.buf := rfl
@[simp] theorem setInit_wkey (v : Bool) (s : State) : (State.setInit v s).wkey = s.wkey := rfl
@[simp] theorem setInit_pending (v : Bool) (s : State) : (State.setInit v s).pending = s.pending := rfl
@[simp] theorem setInit_observed (v : Bool) (s : State) : (State.setInit v s).observed = s.observed := rfl

/-! ### `STATUS.MATCH <- v` -/

@[simp] theorem setMatch_cmd (v : Bool) (s : State) : (State.setMatch v s).cmd = s.cmd := rfl
@[simp] theorem setMatch_status (v : Bool) (s : State) : (State.setMatch v s).status = withBit s.status 1 v := rfl
@[simp] theorem setMatch_err (v : Bool) (s : State) : (State.setMatch v s).err = s.err := rfl
@[simp] theorem setMatch_cfg (v : Bool) (s : State) : (State.setMatch v s).cfg = s.cfg := rfl
@[simp] theorem setMatch_din (v : Bool) (s : State) : (State.setMatch v s).din = s.din := rfl
@[simp] theorem setMatch_buflen (v : Bool) (s : State) : (State.setMatch v s).buflen = s.buflen := rfl
@[simp] theorem setMatch_crcl (v : Bool) (s : State) : (State.setMatch v s).crcl = s.crcl := rfl
@[simp] theorem setMatch_crch (v : Bool) (s : State) : (State.setMatch v s).crch = s.crch := rfl
@[simp] theorem setMatch_c1 (v : Bool) (s : State) : (State.setMatch v s).c1 = s.c1 := rfl
@[simp] theorem setMatch_c2 (v : Bool) (s : State) : (State.setMatch v s).c2 = s.c2 := rfl
@[simp] theorem setMatch_ctrl0 (v : Bool) (s : State) : (State.setMatch v s).ctrl0 = s.ctrl0 := rfl
@[simp] theorem setMatch_ctrl1 (v : Bool) (s : State) : (State.setMatch v s).ctrl1 = s.ctrl1 := rfl
@[simp] theorem setMatch_dst (v : Bool) (s : State) : (State.setMatch v s).dst = s.dst := rfl
@[simp] theorem setMatch_src (v : Bool) (s : State) : (State.setMatch v s).src = s.src := rfl
@[simp] theorem setMatch_opc (v : Bool) (s : State) : (State.setMatch v s).opc = s.opc := rfl
@[simp] theorem setMatch_plen (v : Bool) (s : State) : (State.setMatch v s).plen = s.plen := rfl
@[simp] theorem setMatch_rcl (v : Bool) (s : State) : (State.setMatch v s).rcl = s.rcl := rfl
@[simp] theorem setMatch_rch (v : Bool) (s : State) : (State.setMatch v s).rch = s.rch := rfl
@[simp] theorem setMatch_mac (v : Bool) (s : State) : (State.setMatch v s).mac = s.mac := rfl
@[simp] theorem setMatch_fcrcl (v : Bool) (s : State) : (State.setMatch v s).fcrcl = s.fcrcl := rfl
@[simp] theorem setMatch_fcrch (v : Bool) (s : State) : (State.setMatch v s).fcrch = s.fcrch := rfl
@[simp] theorem setMatch_tlen (v : Bool) (s : State) : (State.setMatch v s).tlen = s.tlen := rfl
@[simp] theorem setMatch_params (v : Bool) (s : State) : (State.setMatch v s).params = s.params := rfl
@[simp] theorem setMatch_key (v : Bool) (s : State) : (State.setMatch v s).key = s.key := rfl
@[simp] theorem setMatch_ain (v : Bool) (s : State) : (State.setMatch v s).ain = s.ain := rfl
@[simp] theorem setMatch_aout (v : Bool) (s : State) : (State.setMatch v s).aout = s.aout := rfl
@[simp] theorem setMatch_chal (v : Bool) (s : State) : (State.setMatch v s).chal = s.chal := rfl
@[simp] theorem setMatch_macc (v : Bool) (s : State) : (State.setMatch v s).macc = s.macc := rfl
@[simp] theorem setMatch_node (v : Bool) (s : State) : (State.setMatch v s).node = s.node := rfl
@[simp] theorem setMatch_buf (v : Bool) (s : State) : (State.setMatch v s).buf = s.buf := rfl
@[simp] theorem setMatch_wkey (v : Bool) (s : State) : (State.setMatch v s).wkey = s.wkey := rfl
@[simp] theorem setMatch_pending (v : Bool) (s : State) : (State.setMatch v s).pending = s.pending := rfl
@[simp] theorem setMatch_observed (v : Bool) (s : State) : (State.setMatch v s).observed = s.observed := rfl

/-! ### `STATUS.TRUNC <- v` -/

@[simp] theorem setTrunc_cmd (v : Bool) (s : State) : (State.setTrunc v s).cmd = s.cmd := rfl
@[simp] theorem setTrunc_status (v : Bool) (s : State) : (State.setTrunc v s).status = withBit s.status 2 v := rfl
@[simp] theorem setTrunc_err (v : Bool) (s : State) : (State.setTrunc v s).err = s.err := rfl
@[simp] theorem setTrunc_cfg (v : Bool) (s : State) : (State.setTrunc v s).cfg = s.cfg := rfl
@[simp] theorem setTrunc_din (v : Bool) (s : State) : (State.setTrunc v s).din = s.din := rfl
@[simp] theorem setTrunc_buflen (v : Bool) (s : State) : (State.setTrunc v s).buflen = s.buflen := rfl
@[simp] theorem setTrunc_crcl (v : Bool) (s : State) : (State.setTrunc v s).crcl = s.crcl := rfl
@[simp] theorem setTrunc_crch (v : Bool) (s : State) : (State.setTrunc v s).crch = s.crch := rfl
@[simp] theorem setTrunc_c1 (v : Bool) (s : State) : (State.setTrunc v s).c1 = s.c1 := rfl
@[simp] theorem setTrunc_c2 (v : Bool) (s : State) : (State.setTrunc v s).c2 = s.c2 := rfl
@[simp] theorem setTrunc_ctrl0 (v : Bool) (s : State) : (State.setTrunc v s).ctrl0 = s.ctrl0 := rfl
@[simp] theorem setTrunc_ctrl1 (v : Bool) (s : State) : (State.setTrunc v s).ctrl1 = s.ctrl1 := rfl
@[simp] theorem setTrunc_dst (v : Bool) (s : State) : (State.setTrunc v s).dst = s.dst := rfl
@[simp] theorem setTrunc_src (v : Bool) (s : State) : (State.setTrunc v s).src = s.src := rfl
@[simp] theorem setTrunc_opc (v : Bool) (s : State) : (State.setTrunc v s).opc = s.opc := rfl
@[simp] theorem setTrunc_plen (v : Bool) (s : State) : (State.setTrunc v s).plen = s.plen := rfl
@[simp] theorem setTrunc_rcl (v : Bool) (s : State) : (State.setTrunc v s).rcl = s.rcl := rfl
@[simp] theorem setTrunc_rch (v : Bool) (s : State) : (State.setTrunc v s).rch = s.rch := rfl
@[simp] theorem setTrunc_mac (v : Bool) (s : State) : (State.setTrunc v s).mac = s.mac := rfl
@[simp] theorem setTrunc_fcrcl (v : Bool) (s : State) : (State.setTrunc v s).fcrcl = s.fcrcl := rfl
@[simp] theorem setTrunc_fcrch (v : Bool) (s : State) : (State.setTrunc v s).fcrch = s.fcrch := rfl
@[simp] theorem setTrunc_tlen (v : Bool) (s : State) : (State.setTrunc v s).tlen = s.tlen := rfl
@[simp] theorem setTrunc_params (v : Bool) (s : State) : (State.setTrunc v s).params = s.params := rfl
@[simp] theorem setTrunc_key (v : Bool) (s : State) : (State.setTrunc v s).key = s.key := rfl
@[simp] theorem setTrunc_ain (v : Bool) (s : State) : (State.setTrunc v s).ain = s.ain := rfl
@[simp] theorem setTrunc_aout (v : Bool) (s : State) : (State.setTrunc v s).aout = s.aout := rfl
@[simp] theorem setTrunc_chal (v : Bool) (s : State) : (State.setTrunc v s).chal = s.chal := rfl
@[simp] theorem setTrunc_macc (v : Bool) (s : State) : (State.setTrunc v s).macc = s.macc := rfl
@[simp] theorem setTrunc_node (v : Bool) (s : State) : (State.setTrunc v s).node = s.node := rfl
@[simp] theorem setTrunc_buf (v : Bool) (s : State) : (State.setTrunc v s).buf = s.buf := rfl
@[simp] theorem setTrunc_wkey (v : Bool) (s : State) : (State.setTrunc v s).wkey = s.wkey := rfl
@[simp] theorem setTrunc_pending (v : Bool) (s : State) : (State.setTrunc v s).pending = s.pending := rfl
@[simp] theorem setTrunc_observed (v : Bool) (s : State) : (State.setTrunc v s).observed = s.observed := rfl

/-! ### `CRC <- v` -/

@[simp] theorem setCrc_cmd (v : Half) (s : State) : (State.setCrc v s).cmd = s.cmd := rfl
@[simp] theorem setCrc_status (v : Half) (s : State) : (State.setCrc v s).status = s.status := rfl
@[simp] theorem setCrc_err (v : Half) (s : State) : (State.setCrc v s).err = s.err := rfl
@[simp] theorem setCrc_cfg (v : Half) (s : State) : (State.setCrc v s).cfg = s.cfg := rfl
@[simp] theorem setCrc_din (v : Half) (s : State) : (State.setCrc v s).din = s.din := rfl
@[simp] theorem setCrc_buflen (v : Half) (s : State) : (State.setCrc v s).buflen = s.buflen := rfl
@[simp] theorem setCrc_crcl (v : Half) (s : State) : (State.setCrc v s).crcl = loByte v := rfl
@[simp] theorem setCrc_crch (v : Half) (s : State) : (State.setCrc v s).crch = hiByte v := rfl
@[simp] theorem setCrc_c1 (v : Half) (s : State) : (State.setCrc v s).c1 = s.c1 := rfl
@[simp] theorem setCrc_c2 (v : Half) (s : State) : (State.setCrc v s).c2 = s.c2 := rfl
@[simp] theorem setCrc_ctrl0 (v : Half) (s : State) : (State.setCrc v s).ctrl0 = s.ctrl0 := rfl
@[simp] theorem setCrc_ctrl1 (v : Half) (s : State) : (State.setCrc v s).ctrl1 = s.ctrl1 := rfl
@[simp] theorem setCrc_dst (v : Half) (s : State) : (State.setCrc v s).dst = s.dst := rfl
@[simp] theorem setCrc_src (v : Half) (s : State) : (State.setCrc v s).src = s.src := rfl
@[simp] theorem setCrc_opc (v : Half) (s : State) : (State.setCrc v s).opc = s.opc := rfl
@[simp] theorem setCrc_plen (v : Half) (s : State) : (State.setCrc v s).plen = s.plen := rfl
@[simp] theorem setCrc_rcl (v : Half) (s : State) : (State.setCrc v s).rcl = s.rcl := rfl
@[simp] theorem setCrc_rch (v : Half) (s : State) : (State.setCrc v s).rch = s.rch := rfl
@[simp] theorem setCrc_mac (v : Half) (s : State) : (State.setCrc v s).mac = s.mac := rfl
@[simp] theorem setCrc_fcrcl (v : Half) (s : State) : (State.setCrc v s).fcrcl = s.fcrcl := rfl
@[simp] theorem setCrc_fcrch (v : Half) (s : State) : (State.setCrc v s).fcrch = s.fcrch := rfl
@[simp] theorem setCrc_tlen (v : Half) (s : State) : (State.setCrc v s).tlen = s.tlen := rfl
@[simp] theorem setCrc_params (v : Half) (s : State) : (State.setCrc v s).params = s.params := rfl
@[simp] theorem setCrc_key (v : Half) (s : State) : (State.setCrc v s).key = s.key := rfl
@[simp] theorem setCrc_ain (v : Half) (s : State) : (State.setCrc v s).ain = s.ain := rfl
@[simp] theorem setCrc_aout (v : Half) (s : State) : (State.setCrc v s).aout = s.aout := rfl
@[simp] theorem setCrc_chal (v : Half) (s : State) : (State.setCrc v s).chal = s.chal := rfl
@[simp] theorem setCrc_macc (v : Half) (s : State) : (State.setCrc v s).macc = s.macc := rfl
@[simp] theorem setCrc_node (v : Half) (s : State) : (State.setCrc v s).node = s.node := rfl
@[simp] theorem setCrc_buf (v : Half) (s : State) : (State.setCrc v s).buf = s.buf := rfl
@[simp] theorem setCrc_wkey (v : Half) (s : State) : (State.setCrc v s).wkey = s.wkey := rfl
@[simp] theorem setCrc_pending (v : Half) (s : State) : (State.setCrc v s).pending = s.pending := rfl
@[simp] theorem setCrc_observed (v : Half) (s : State) : (State.setCrc v s).observed = s.observed := rfl

/-! ### `FCRC <- v` -/

@[simp] theorem setFcrc_cmd (v : Half) (s : State) : (State.setFcrc v s).cmd = s.cmd := rfl
@[simp] theorem setFcrc_status (v : Half) (s : State) : (State.setFcrc v s).status = s.status := rfl
@[simp] theorem setFcrc_err (v : Half) (s : State) : (State.setFcrc v s).err = s.err := rfl
@[simp] theorem setFcrc_cfg (v : Half) (s : State) : (State.setFcrc v s).cfg = s.cfg := rfl
@[simp] theorem setFcrc_din (v : Half) (s : State) : (State.setFcrc v s).din = s.din := rfl
@[simp] theorem setFcrc_buflen (v : Half) (s : State) : (State.setFcrc v s).buflen = s.buflen := rfl
@[simp] theorem setFcrc_crcl (v : Half) (s : State) : (State.setFcrc v s).crcl = s.crcl := rfl
@[simp] theorem setFcrc_crch (v : Half) (s : State) : (State.setFcrc v s).crch = s.crch := rfl
@[simp] theorem setFcrc_c1 (v : Half) (s : State) : (State.setFcrc v s).c1 = s.c1 := rfl
@[simp] theorem setFcrc_c2 (v : Half) (s : State) : (State.setFcrc v s).c2 = s.c2 := rfl
@[simp] theorem setFcrc_ctrl0 (v : Half) (s : State) : (State.setFcrc v s).ctrl0 = s.ctrl0 := rfl
@[simp] theorem setFcrc_ctrl1 (v : Half) (s : State) : (State.setFcrc v s).ctrl1 = s.ctrl1 := rfl
@[simp] theorem setFcrc_dst (v : Half) (s : State) : (State.setFcrc v s).dst = s.dst := rfl
@[simp] theorem setFcrc_src (v : Half) (s : State) : (State.setFcrc v s).src = s.src := rfl
@[simp] theorem setFcrc_opc (v : Half) (s : State) : (State.setFcrc v s).opc = s.opc := rfl
@[simp] theorem setFcrc_plen (v : Half) (s : State) : (State.setFcrc v s).plen = s.plen := rfl
@[simp] theorem setFcrc_rcl (v : Half) (s : State) : (State.setFcrc v s).rcl = s.rcl := rfl
@[simp] theorem setFcrc_rch (v : Half) (s : State) : (State.setFcrc v s).rch = s.rch := rfl
@[simp] theorem setFcrc_mac (v : Half) (s : State) : (State.setFcrc v s).mac = s.mac := rfl
@[simp] theorem setFcrc_fcrcl (v : Half) (s : State) : (State.setFcrc v s).fcrcl = loByte v := rfl
@[simp] theorem setFcrc_fcrch (v : Half) (s : State) : (State.setFcrc v s).fcrch = hiByte v := rfl
@[simp] theorem setFcrc_tlen (v : Half) (s : State) : (State.setFcrc v s).tlen = s.tlen := rfl
@[simp] theorem setFcrc_params (v : Half) (s : State) : (State.setFcrc v s).params = s.params := rfl
@[simp] theorem setFcrc_key (v : Half) (s : State) : (State.setFcrc v s).key = s.key := rfl
@[simp] theorem setFcrc_ain (v : Half) (s : State) : (State.setFcrc v s).ain = s.ain := rfl
@[simp] theorem setFcrc_aout (v : Half) (s : State) : (State.setFcrc v s).aout = s.aout := rfl
@[simp] theorem setFcrc_chal (v : Half) (s : State) : (State.setFcrc v s).chal = s.chal := rfl
@[simp] theorem setFcrc_macc (v : Half) (s : State) : (State.setFcrc v s).macc = s.macc := rfl
@[simp] theorem setFcrc_node (v : Half) (s : State) : (State.setFcrc v s).node = s.node := rfl
@[simp] theorem setFcrc_buf (v : Half) (s : State) : (State.setFcrc v s).buf = s.buf := rfl
@[simp] theorem setFcrc_wkey (v : Half) (s : State) : (State.setFcrc v s).wkey = s.wkey := rfl
@[simp] theorem setFcrc_pending (v : Half) (s : State) : (State.setFcrc v s).pending = s.pending := rfl
@[simp] theorem setFcrc_observed (v : Half) (s : State) : (State.setFcrc v s).observed = s.observed := rfl

/-! ### `done` (60_exceptions.md R183) -/

@[simp] theorem complete_cmd (s : State) : (complete s).cmd = s.cmd := rfl
@[simp] theorem complete_status (s : State) : (complete s).status = s.status := rfl
@[simp] theorem complete_err (s : State) : (complete s).err = 0x00 := rfl
@[simp] theorem complete_cfg (s : State) : (complete s).cfg = s.cfg := rfl
@[simp] theorem complete_din (s : State) : (complete s).din = s.din := rfl
@[simp] theorem complete_buflen (s : State) : (complete s).buflen = s.buflen := rfl
@[simp] theorem complete_crcl (s : State) : (complete s).crcl = s.crcl := rfl
@[simp] theorem complete_crch (s : State) : (complete s).crch = s.crch := rfl
@[simp] theorem complete_c1 (s : State) : (complete s).c1 = s.c1 := rfl
@[simp] theorem complete_c2 (s : State) : (complete s).c2 = s.c2 := rfl
@[simp] theorem complete_ctrl0 (s : State) : (complete s).ctrl0 = s.ctrl0 := rfl
@[simp] theorem complete_ctrl1 (s : State) : (complete s).ctrl1 = s.ctrl1 := rfl
@[simp] theorem complete_dst (s : State) : (complete s).dst = s.dst := rfl
@[simp] theorem complete_src (s : State) : (complete s).src = s.src := rfl
@[simp] theorem complete_opc (s : State) : (complete s).opc = s.opc := rfl
@[simp] theorem complete_plen (s : State) : (complete s).plen = s.plen := rfl
@[simp] theorem complete_rcl (s : State) : (complete s).rcl = s.rcl := rfl
@[simp] theorem complete_rch (s : State) : (complete s).rch = s.rch := rfl
@[simp] theorem complete_mac (s : State) : (complete s).mac = s.mac := rfl
@[simp] theorem complete_fcrcl (s : State) : (complete s).fcrcl = s.fcrcl := rfl
@[simp] theorem complete_fcrch (s : State) : (complete s).fcrch = s.fcrch := rfl
@[simp] theorem complete_tlen (s : State) : (complete s).tlen = s.tlen := rfl
@[simp] theorem complete_params (s : State) : (complete s).params = s.params := rfl
@[simp] theorem complete_key (s : State) : (complete s).key = s.key := rfl
@[simp] theorem complete_ain (s : State) : (complete s).ain = s.ain := rfl
@[simp] theorem complete_aout (s : State) : (complete s).aout = s.aout := rfl
@[simp] theorem complete_chal (s : State) : (complete s).chal = s.chal := rfl
@[simp] theorem complete_macc (s : State) : (complete s).macc = s.macc := rfl
@[simp] theorem complete_node (s : State) : (complete s).node = s.node := rfl
@[simp] theorem complete_buf (s : State) : (complete s).buf = s.buf := rfl
@[simp] theorem complete_wkey (s : State) : (complete s).wkey = s.wkey := rfl
@[simp] theorem complete_pending (s : State) : (complete s).pending = s.pending := rfl
@[simp] theorem complete_observed (s : State) : (complete s).observed = s.observed := rfl

/-! ### the ending of a command without a result -/

@[simp] theorem completePlain_cmd (s : State) : (completePlain s).cmd = s.cmd := rfl
@[simp] theorem completePlain_status (s : State) : (completePlain s).status = withBit (withBit s.status 1 false) 2 false := rfl
@[simp] theorem completePlain_err (s : State) : (completePlain s).err = 0x00 := rfl
@[simp] theorem completePlain_cfg (s : State) : (completePlain s).cfg = s.cfg := rfl
@[simp] theorem completePlain_din (s : State) : (completePlain s).din = s.din := rfl
@[simp] theorem completePlain_buflen (s : State) : (completePlain s).buflen = s.buflen := rfl
@[simp] theorem completePlain_crcl (s : State) : (completePlain s).crcl = s.crcl := rfl
@[simp] theorem completePlain_crch (s : State) : (completePlain s).crch = s.crch := rfl
@[simp] theorem completePlain_c1 (s : State) : (completePlain s).c1 = s.c1 := rfl
@[simp] theorem completePlain_c2 (s : State) : (completePlain s).c2 = s.c2 := rfl
@[simp] theorem completePlain_ctrl0 (s : State) : (completePlain s).ctrl0 = s.ctrl0 := rfl
@[simp] theorem completePlain_ctrl1 (s : State) : (completePlain s).ctrl1 = s.ctrl1 := rfl
@[simp] theorem completePlain_dst (s : State) : (completePlain s).dst = s.dst := rfl
@[simp] theorem completePlain_src (s : State) : (completePlain s).src = s.src := rfl
@[simp] theorem completePlain_opc (s : State) : (completePlain s).opc = s.opc := rfl
@[simp] theorem completePlain_plen (s : State) : (completePlain s).plen = s.plen := rfl
@[simp] theorem completePlain_rcl (s : State) : (completePlain s).rcl = s.rcl := rfl
@[simp] theorem completePlain_rch (s : State) : (completePlain s).rch = s.rch := rfl
@[simp] theorem completePlain_mac (s : State) : (completePlain s).mac = s.mac := rfl
@[simp] theorem completePlain_fcrcl (s : State) : (completePlain s).fcrcl = s.fcrcl := rfl
@[simp] theorem completePlain_fcrch (s : State) : (completePlain s).fcrch = s.fcrch := rfl
@[simp] theorem completePlain_tlen (s : State) : (completePlain s).tlen = s.tlen := rfl
@[simp] theorem completePlain_params (s : State) : (completePlain s).params = s.params := rfl
@[simp] theorem completePlain_key (s : State) : (completePlain s).key = s.key := rfl
@[simp] theorem completePlain_ain (s : State) : (completePlain s).ain = s.ain := rfl
@[simp] theorem completePlain_aout (s : State) : (completePlain s).aout = s.aout := rfl
@[simp] theorem completePlain_chal (s : State) : (completePlain s).chal = s.chal := rfl
@[simp] theorem completePlain_macc (s : State) : (completePlain s).macc = s.macc := rfl
@[simp] theorem completePlain_node (s : State) : (completePlain s).node = s.node := rfl
@[simp] theorem completePlain_buf (s : State) : (completePlain s).buf = s.buf := rfl
@[simp] theorem completePlain_wkey (s : State) : (completePlain s).wkey = s.wkey := rfl
@[simp] theorem completePlain_pending (s : State) : (completePlain s).pending = s.pending := rfl
@[simp] theorem completePlain_observed (s : State) : (completePlain s).observed = s.observed := rfl

/-! ### `raise E(k)` (60_exceptions.md R184) -/

@[simp] theorem raise_cmd (k : ErrorKind) (s : State) : (raise k s).cmd = s.cmd := rfl
@[simp] theorem raise_status (k : ErrorKind) (s : State) : (raise k s).status = withBit (withBit s.status 1 false) 2 false := rfl
@[simp] theorem raise_err (k : ErrorKind) (s : State) : (raise k s).err = errorCode k := rfl
@[simp] theorem raise_cfg (k : ErrorKind) (s : State) : (raise k s).cfg = s.cfg := rfl
@[simp] theorem raise_din (k : ErrorKind) (s : State) : (raise k s).din = s.din := rfl
@[simp] theorem raise_buflen (k : ErrorKind) (s : State) : (raise k s).buflen = s.buflen := rfl
@[simp] theorem raise_crcl (k : ErrorKind) (s : State) : (raise k s).crcl = s.crcl := rfl
@[simp] theorem raise_crch (k : ErrorKind) (s : State) : (raise k s).crch = s.crch := rfl
@[simp] theorem raise_c1 (k : ErrorKind) (s : State) : (raise k s).c1 = s.c1 := rfl
@[simp] theorem raise_c2 (k : ErrorKind) (s : State) : (raise k s).c2 = s.c2 := rfl
@[simp] theorem raise_ctrl0 (k : ErrorKind) (s : State) : (raise k s).ctrl0 = s.ctrl0 := rfl
@[simp] theorem raise_ctrl1 (k : ErrorKind) (s : State) : (raise k s).ctrl1 = s.ctrl1 := rfl
@[simp] theorem raise_dst (k : ErrorKind) (s : State) : (raise k s).dst = s.dst := rfl
@[simp] theorem raise_src (k : ErrorKind) (s : State) : (raise k s).src = s.src := rfl
@[simp] theorem raise_opc (k : ErrorKind) (s : State) : (raise k s).opc = s.opc := rfl
@[simp] theorem raise_plen (k : ErrorKind) (s : State) : (raise k s).plen = s.plen := rfl
@[simp] theorem raise_rcl (k : ErrorKind) (s : State) : (raise k s).rcl = s.rcl := rfl
@[simp] theorem raise_rch (k : ErrorKind) (s : State) : (raise k s).rch = s.rch := rfl
@[simp] theorem raise_mac (k : ErrorKind) (s : State) : (raise k s).mac = s.mac := rfl
@[simp] theorem raise_fcrcl (k : ErrorKind) (s : State) : (raise k s).fcrcl = s.fcrcl := rfl
@[simp] theorem raise_fcrch (k : ErrorKind) (s : State) : (raise k s).fcrch = s.fcrch := rfl
@[simp] theorem raise_tlen (k : ErrorKind) (s : State) : (raise k s).tlen = s.tlen := rfl
@[simp] theorem raise_params (k : ErrorKind) (s : State) : (raise k s).params = s.params := rfl
@[simp] theorem raise_key (k : ErrorKind) (s : State) : (raise k s).key = s.key := rfl
@[simp] theorem raise_ain (k : ErrorKind) (s : State) : (raise k s).ain = s.ain := rfl
@[simp] theorem raise_aout (k : ErrorKind) (s : State) : (raise k s).aout = s.aout := rfl
@[simp] theorem raise_chal (k : ErrorKind) (s : State) : (raise k s).chal = s.chal := rfl
@[simp] theorem raise_macc (k : ErrorKind) (s : State) : (raise k s).macc = s.macc := rfl
@[simp] theorem raise_node (k : ErrorKind) (s : State) : (raise k s).node = s.node := rfl
@[simp] theorem raise_buf (k : ErrorKind) (s : State) : (raise k s).buf = s.buf := rfl
@[simp] theorem raise_wkey (k : ErrorKind) (s : State) : (raise k s).wkey = s.wkey := rfl
@[simp] theorem raise_pending (k : ErrorKind) (s : State) : (raise k s).pending = s.pending := rfl
@[simp] theorem raise_observed (k : ErrorKind) (s : State) : (raise k s).observed = s.observed := rfl

/-! ### `raise E(k) keeping STATUS.TRUNC` (60_exceptions.md R184) -/

@[simp] theorem raiseKeepTrunc_cmd (k : ErrorKind) (s : State) : (raiseKeepTrunc k s).cmd = s.cmd := rfl
@[simp] theorem raiseKeepTrunc_status (k : ErrorKind) (s : State) : (raiseKeepTrunc k s).status = withBit s.status 1 false := rfl
@[simp] theorem raiseKeepTrunc_err (k : ErrorKind) (s : State) : (raiseKeepTrunc k s).err = errorCode k := rfl
@[simp] theorem raiseKeepTrunc_cfg (k : ErrorKind) (s : State) : (raiseKeepTrunc k s).cfg = s.cfg := rfl
@[simp] theorem raiseKeepTrunc_din (k : ErrorKind) (s : State) : (raiseKeepTrunc k s).din = s.din := rfl
@[simp] theorem raiseKeepTrunc_buflen (k : ErrorKind) (s : State) : (raiseKeepTrunc k s).buflen = s.buflen := rfl
@[simp] theorem raiseKeepTrunc_crcl (k : ErrorKind) (s : State) : (raiseKeepTrunc k s).crcl = s.crcl := rfl
@[simp] theorem raiseKeepTrunc_crch (k : ErrorKind) (s : State) : (raiseKeepTrunc k s).crch = s.crch := rfl
@[simp] theorem raiseKeepTrunc_c1 (k : ErrorKind) (s : State) : (raiseKeepTrunc k s).c1 = s.c1 := rfl
@[simp] theorem raiseKeepTrunc_c2 (k : ErrorKind) (s : State) : (raiseKeepTrunc k s).c2 = s.c2 := rfl
@[simp] theorem raiseKeepTrunc_ctrl0 (k : ErrorKind) (s : State) : (raiseKeepTrunc k s).ctrl0 = s.ctrl0 := rfl
@[simp] theorem raiseKeepTrunc_ctrl1 (k : ErrorKind) (s : State) : (raiseKeepTrunc k s).ctrl1 = s.ctrl1 := rfl
@[simp] theorem raiseKeepTrunc_dst (k : ErrorKind) (s : State) : (raiseKeepTrunc k s).dst = s.dst := rfl
@[simp] theorem raiseKeepTrunc_src (k : ErrorKind) (s : State) : (raiseKeepTrunc k s).src = s.src := rfl
@[simp] theorem raiseKeepTrunc_opc (k : ErrorKind) (s : State) : (raiseKeepTrunc k s).opc = s.opc := rfl
@[simp] theorem raiseKeepTrunc_plen (k : ErrorKind) (s : State) : (raiseKeepTrunc k s).plen = s.plen := rfl
@[simp] theorem raiseKeepTrunc_rcl (k : ErrorKind) (s : State) : (raiseKeepTrunc k s).rcl = s.rcl := rfl
@[simp] theorem raiseKeepTrunc_rch (k : ErrorKind) (s : State) : (raiseKeepTrunc k s).rch = s.rch := rfl
@[simp] theorem raiseKeepTrunc_mac (k : ErrorKind) (s : State) : (raiseKeepTrunc k s).mac = s.mac := rfl
@[simp] theorem raiseKeepTrunc_fcrcl (k : ErrorKind) (s : State) : (raiseKeepTrunc k s).fcrcl = s.fcrcl := rfl
@[simp] theorem raiseKeepTrunc_fcrch (k : ErrorKind) (s : State) : (raiseKeepTrunc k s).fcrch = s.fcrch := rfl
@[simp] theorem raiseKeepTrunc_tlen (k : ErrorKind) (s : State) : (raiseKeepTrunc k s).tlen = s.tlen := rfl
@[simp] theorem raiseKeepTrunc_params (k : ErrorKind) (s : State) : (raiseKeepTrunc k s).params = s.params := rfl
@[simp] theorem raiseKeepTrunc_key (k : ErrorKind) (s : State) : (raiseKeepTrunc k s).key = s.key := rfl
@[simp] theorem raiseKeepTrunc_ain (k : ErrorKind) (s : State) : (raiseKeepTrunc k s).ain = s.ain := rfl
@[simp] theorem raiseKeepTrunc_aout (k : ErrorKind) (s : State) : (raiseKeepTrunc k s).aout = s.aout := rfl
@[simp] theorem raiseKeepTrunc_chal (k : ErrorKind) (s : State) : (raiseKeepTrunc k s).chal = s.chal := rfl
@[simp] theorem raiseKeepTrunc_macc (k : ErrorKind) (s : State) : (raiseKeepTrunc k s).macc = s.macc := rfl
@[simp] theorem raiseKeepTrunc_node (k : ErrorKind) (s : State) : (raiseKeepTrunc k s).node = s.node := rfl
@[simp] theorem raiseKeepTrunc_buf (k : ErrorKind) (s : State) : (raiseKeepTrunc k s).buf = s.buf := rfl
@[simp] theorem raiseKeepTrunc_wkey (k : ErrorKind) (s : State) : (raiseKeepTrunc k s).wkey = s.wkey := rfl
@[simp] theorem raiseKeepTrunc_pending (k : ErrorKind) (s : State) : (raiseKeepTrunc k s).pending = s.pending := rfl
@[simp] theorem raiseKeepTrunc_observed (k : ErrorKind) (s : State) : (raiseKeepTrunc k s).observed = s.observed := rfl

/-! ### a byte returned to the host -/

@[simp] theorem observe_cmd (b : Byte) (s : State) : (State.observe b s).cmd = s.cmd := rfl
@[simp] theorem observe_status (b : Byte) (s : State) : (State.observe b s).status = s.status := rfl
@[simp] theorem observe_err (b : Byte) (s : State) : (State.observe b s).err = s.err := rfl
@[simp] theorem observe_cfg (b : Byte) (s : State) : (State.observe b s).cfg = s.cfg := rfl
@[simp] theorem observe_din (b : Byte) (s : State) : (State.observe b s).din = s.din := rfl
@[simp] theorem observe_buflen (b : Byte) (s : State) : (State.observe b s).buflen = s.buflen := rfl
@[simp] theorem observe_crcl (b : Byte) (s : State) : (State.observe b s).crcl = s.crcl := rfl
@[simp] theorem observe_crch (b : Byte) (s : State) : (State.observe b s).crch = s.crch := rfl
@[simp] theorem observe_c1 (b : Byte) (s : State) : (State.observe b s).c1 = s.c1 := rfl
@[simp] theorem observe_c2 (b : Byte) (s : State) : (State.observe b s).c2 = s.c2 := rfl
@[simp] theorem observe_ctrl0 (b : Byte) (s : State) : (State.observe b s).ctrl0 = s.ctrl0 := rfl
@[simp] theorem observe_ctrl1 (b : Byte) (s : State) : (State.observe b s).ctrl1 = s.ctrl1 := rfl
@[simp] theorem observe_dst (b : Byte) (s : State) : (State.observe b s).dst = s.dst := rfl
@[simp] theorem observe_src (b : Byte) (s : State) : (State.observe b s).src = s.src := rfl
@[simp] theorem observe_opc (b : Byte) (s : State) : (State.observe b s).opc = s.opc := rfl
@[simp] theorem observe_plen (b : Byte) (s : State) : (State.observe b s).plen = s.plen := rfl
@[simp] theorem observe_rcl (b : Byte) (s : State) : (State.observe b s).rcl = s.rcl := rfl
@[simp] theorem observe_rch (b : Byte) (s : State) : (State.observe b s).rch = s.rch := rfl
@[simp] theorem observe_mac (b : Byte) (s : State) : (State.observe b s).mac = s.mac := rfl
@[simp] theorem observe_fcrcl (b : Byte) (s : State) : (State.observe b s).fcrcl = s.fcrcl := rfl
@[simp] theorem observe_fcrch (b : Byte) (s : State) : (State.observe b s).fcrch = s.fcrch := rfl
@[simp] theorem observe_tlen (b : Byte) (s : State) : (State.observe b s).tlen = s.tlen := rfl
@[simp] theorem observe_params (b : Byte) (s : State) : (State.observe b s).params = s.params := rfl
@[simp] theorem observe_key (b : Byte) (s : State) : (State.observe b s).key = s.key := rfl
@[simp] theorem observe_ain (b : Byte) (s : State) : (State.observe b s).ain = s.ain := rfl
@[simp] theorem observe_aout (b : Byte) (s : State) : (State.observe b s).aout = s.aout := rfl
@[simp] theorem observe_chal (b : Byte) (s : State) : (State.observe b s).chal = s.chal := rfl
@[simp] theorem observe_macc (b : Byte) (s : State) : (State.observe b s).macc = s.macc := rfl
@[simp] theorem observe_node (b : Byte) (s : State) : (State.observe b s).node = s.node := rfl
@[simp] theorem observe_buf (b : Byte) (s : State) : (State.observe b s).buf = s.buf := rfl
@[simp] theorem observe_wkey (b : Byte) (s : State) : (State.observe b s).wkey = s.wkey := rfl
@[simp] theorem observe_pending (b : Byte) (s : State) : (State.observe b s).pending = s.pending := rfl
@[simp] theorem observe_observed (b : Byte) (s : State) : (State.observe b s).observed = s.observed ++ [b] := rfl

/-! ### the host's list -/

@[simp] theorem withHostList_cmd (ws : List HostWord) (s : State) : (s.withHostList ws).cmd = s.cmd := rfl
@[simp] theorem withHostList_status (ws : List HostWord) (s : State) : (s.withHostList ws).status = s.status := rfl
@[simp] theorem withHostList_err (ws : List HostWord) (s : State) : (s.withHostList ws).err = s.err := rfl
@[simp] theorem withHostList_cfg (ws : List HostWord) (s : State) : (s.withHostList ws).cfg = s.cfg := rfl
@[simp] theorem withHostList_din (ws : List HostWord) (s : State) : (s.withHostList ws).din = s.din := rfl
@[simp] theorem withHostList_buflen (ws : List HostWord) (s : State) : (s.withHostList ws).buflen = s.buflen := rfl
@[simp] theorem withHostList_crcl (ws : List HostWord) (s : State) : (s.withHostList ws).crcl = s.crcl := rfl
@[simp] theorem withHostList_crch (ws : List HostWord) (s : State) : (s.withHostList ws).crch = s.crch := rfl
@[simp] theorem withHostList_c1 (ws : List HostWord) (s : State) : (s.withHostList ws).c1 = s.c1 := rfl
@[simp] theorem withHostList_c2 (ws : List HostWord) (s : State) : (s.withHostList ws).c2 = s.c2 := rfl
@[simp] theorem withHostList_ctrl0 (ws : List HostWord) (s : State) : (s.withHostList ws).ctrl0 = s.ctrl0 := rfl
@[simp] theorem withHostList_ctrl1 (ws : List HostWord) (s : State) : (s.withHostList ws).ctrl1 = s.ctrl1 := rfl
@[simp] theorem withHostList_dst (ws : List HostWord) (s : State) : (s.withHostList ws).dst = s.dst := rfl
@[simp] theorem withHostList_src (ws : List HostWord) (s : State) : (s.withHostList ws).src = s.src := rfl
@[simp] theorem withHostList_opc (ws : List HostWord) (s : State) : (s.withHostList ws).opc = s.opc := rfl
@[simp] theorem withHostList_plen (ws : List HostWord) (s : State) : (s.withHostList ws).plen = s.plen := rfl
@[simp] theorem withHostList_rcl (ws : List HostWord) (s : State) : (s.withHostList ws).rcl = s.rcl := rfl
@[simp] theorem withHostList_rch (ws : List HostWord) (s : State) : (s.withHostList ws).rch = s.rch := rfl
@[simp] theorem withHostList_mac (ws : List HostWord) (s : State) : (s.withHostList ws).mac = s.mac := rfl
@[simp] theorem withHostList_fcrcl (ws : List HostWord) (s : State) : (s.withHostList ws).fcrcl = s.fcrcl := rfl
@[simp] theorem withHostList_fcrch (ws : List HostWord) (s : State) : (s.withHostList ws).fcrch = s.fcrch := rfl
@[simp] theorem withHostList_tlen (ws : List HostWord) (s : State) : (s.withHostList ws).tlen = s.tlen := rfl
@[simp] theorem withHostList_params (ws : List HostWord) (s : State) : (s.withHostList ws).params = s.params := rfl
@[simp] theorem withHostList_key (ws : List HostWord) (s : State) : (s.withHostList ws).key = s.key := rfl
@[simp] theorem withHostList_ain (ws : List HostWord) (s : State) : (s.withHostList ws).ain = s.ain := rfl
@[simp] theorem withHostList_aout (ws : List HostWord) (s : State) : (s.withHostList ws).aout = s.aout := rfl
@[simp] theorem withHostList_chal (ws : List HostWord) (s : State) : (s.withHostList ws).chal = s.chal := rfl
@[simp] theorem withHostList_macc (ws : List HostWord) (s : State) : (s.withHostList ws).macc = s.macc := rfl
@[simp] theorem withHostList_node (ws : List HostWord) (s : State) : (s.withHostList ws).node = s.node := rfl
@[simp] theorem withHostList_buf (ws : List HostWord) (s : State) : (s.withHostList ws).buf = s.buf := rfl
@[simp] theorem withHostList_wkey (ws : List HostWord) (s : State) : (s.withHostList ws).wkey = s.wkey := rfl
@[simp] theorem withHostList_pending (ws : List HostWord) (s : State) : (s.withHostList ws).pending = ws := rfl
@[simp] theorem withHostList_observed (ws : List HostWord) (s : State) : (s.withHostList ws).observed = s.observed := rfl

/-! ### the host loads `KEY` -/

@[simp] theorem withKey_cmd (v : Vector Byte 16) (s : State) : (s.withKey v).cmd = s.cmd := rfl
@[simp] theorem withKey_status (v : Vector Byte 16) (s : State) : (s.withKey v).status = s.status := rfl
@[simp] theorem withKey_err (v : Vector Byte 16) (s : State) : (s.withKey v).err = s.err := rfl
@[simp] theorem withKey_cfg (v : Vector Byte 16) (s : State) : (s.withKey v).cfg = s.cfg := rfl
@[simp] theorem withKey_din (v : Vector Byte 16) (s : State) : (s.withKey v).din = s.din := rfl
@[simp] theorem withKey_buflen (v : Vector Byte 16) (s : State) : (s.withKey v).buflen = s.buflen := rfl
@[simp] theorem withKey_crcl (v : Vector Byte 16) (s : State) : (s.withKey v).crcl = s.crcl := rfl
@[simp] theorem withKey_crch (v : Vector Byte 16) (s : State) : (s.withKey v).crch = s.crch := rfl
@[simp] theorem withKey_c1 (v : Vector Byte 16) (s : State) : (s.withKey v).c1 = s.c1 := rfl
@[simp] theorem withKey_c2 (v : Vector Byte 16) (s : State) : (s.withKey v).c2 = s.c2 := rfl
@[simp] theorem withKey_ctrl0 (v : Vector Byte 16) (s : State) : (s.withKey v).ctrl0 = s.ctrl0 := rfl
@[simp] theorem withKey_ctrl1 (v : Vector Byte 16) (s : State) : (s.withKey v).ctrl1 = s.ctrl1 := rfl
@[simp] theorem withKey_dst (v : Vector Byte 16) (s : State) : (s.withKey v).dst = s.dst := rfl
@[simp] theorem withKey_src (v : Vector Byte 16) (s : State) : (s.withKey v).src = s.src := rfl
@[simp] theorem withKey_opc (v : Vector Byte 16) (s : State) : (s.withKey v).opc = s.opc := rfl
@[simp] theorem withKey_plen (v : Vector Byte 16) (s : State) : (s.withKey v).plen = s.plen := rfl
@[simp] theorem withKey_rcl (v : Vector Byte 16) (s : State) : (s.withKey v).rcl = s.rcl := rfl
@[simp] theorem withKey_rch (v : Vector Byte 16) (s : State) : (s.withKey v).rch = s.rch := rfl
@[simp] theorem withKey_mac (v : Vector Byte 16) (s : State) : (s.withKey v).mac = s.mac := rfl
@[simp] theorem withKey_fcrcl (v : Vector Byte 16) (s : State) : (s.withKey v).fcrcl = s.fcrcl := rfl
@[simp] theorem withKey_fcrch (v : Vector Byte 16) (s : State) : (s.withKey v).fcrch = s.fcrch := rfl
@[simp] theorem withKey_tlen (v : Vector Byte 16) (s : State) : (s.withKey v).tlen = s.tlen := rfl
@[simp] theorem withKey_params (v : Vector Byte 16) (s : State) : (s.withKey v).params = s.params := rfl
@[simp] theorem withKey_key (v : Vector Byte 16) (s : State) : (s.withKey v).key = v := rfl
@[simp] theorem withKey_ain (v : Vector Byte 16) (s : State) : (s.withKey v).ain = s.ain := rfl
@[simp] theorem withKey_aout (v : Vector Byte 16) (s : State) : (s.withKey v).aout = s.aout := rfl
@[simp] theorem withKey_chal (v : Vector Byte 16) (s : State) : (s.withKey v).chal = s.chal := rfl
@[simp] theorem withKey_macc (v : Vector Byte 16) (s : State) : (s.withKey v).macc = s.macc := rfl
@[simp] theorem withKey_node (v : Vector Byte 16) (s : State) : (s.withKey v).node = s.node := rfl
@[simp] theorem withKey_buf (v : Vector Byte 16) (s : State) : (s.withKey v).buf = s.buf := rfl
@[simp] theorem withKey_wkey (v : Vector Byte 16) (s : State) : (s.withKey v).wkey = s.wkey := rfl
@[simp] theorem withKey_pending (v : Vector Byte 16) (s : State) : (s.withKey v).pending = s.pending := rfl
@[simp] theorem withKey_observed (v : Vector Byte 16) (s : State) : (s.withKey v).observed = s.observed := rfl

/-! ### the host loads `CFG` -/

@[simp] theorem withCfg_cmd (v : Byte) (s : State) : (s.withCfg v).cmd = s.cmd := rfl
@[simp] theorem withCfg_status (v : Byte) (s : State) : (s.withCfg v).status = s.status := rfl
@[simp] theorem withCfg_err (v : Byte) (s : State) : (s.withCfg v).err = s.err := rfl
@[simp] theorem withCfg_cfg (v : Byte) (s : State) : (s.withCfg v).cfg = v := rfl
@[simp] theorem withCfg_din (v : Byte) (s : State) : (s.withCfg v).din = s.din := rfl
@[simp] theorem withCfg_buflen (v : Byte) (s : State) : (s.withCfg v).buflen = s.buflen := rfl
@[simp] theorem withCfg_crcl (v : Byte) (s : State) : (s.withCfg v).crcl = s.crcl := rfl
@[simp] theorem withCfg_crch (v : Byte) (s : State) : (s.withCfg v).crch = s.crch := rfl
@[simp] theorem withCfg_c1 (v : Byte) (s : State) : (s.withCfg v).c1 = s.c1 := rfl
@[simp] theorem withCfg_c2 (v : Byte) (s : State) : (s.withCfg v).c2 = s.c2 := rfl
@[simp] theorem withCfg_ctrl0 (v : Byte) (s : State) : (s.withCfg v).ctrl0 = s.ctrl0 := rfl
@[simp] theorem withCfg_ctrl1 (v : Byte) (s : State) : (s.withCfg v).ctrl1 = s.ctrl1 := rfl
@[simp] theorem withCfg_dst (v : Byte) (s : State) : (s.withCfg v).dst = s.dst := rfl
@[simp] theorem withCfg_src (v : Byte) (s : State) : (s.withCfg v).src = s.src := rfl
@[simp] theorem withCfg_opc (v : Byte) (s : State) : (s.withCfg v).opc = s.opc := rfl
@[simp] theorem withCfg_plen (v : Byte) (s : State) : (s.withCfg v).plen = s.plen := rfl
@[simp] theorem withCfg_rcl (v : Byte) (s : State) : (s.withCfg v).rcl = s.rcl := rfl
@[simp] theorem withCfg_rch (v : Byte) (s : State) : (s.withCfg v).rch = s.rch := rfl
@[simp] theorem withCfg_mac (v : Byte) (s : State) : (s.withCfg v).mac = s.mac := rfl
@[simp] theorem withCfg_fcrcl (v : Byte) (s : State) : (s.withCfg v).fcrcl = s.fcrcl := rfl
@[simp] theorem withCfg_fcrch (v : Byte) (s : State) : (s.withCfg v).fcrch = s.fcrch := rfl
@[simp] theorem withCfg_tlen (v : Byte) (s : State) : (s.withCfg v).tlen = s.tlen := rfl
@[simp] theorem withCfg_params (v : Byte) (s : State) : (s.withCfg v).params = s.params := rfl
@[simp] theorem withCfg_key (v : Byte) (s : State) : (s.withCfg v).key = s.key := rfl
@[simp] theorem withCfg_ain (v : Byte) (s : State) : (s.withCfg v).ain = s.ain := rfl
@[simp] theorem withCfg_aout (v : Byte) (s : State) : (s.withCfg v).aout = s.aout := rfl
@[simp] theorem withCfg_chal (v : Byte) (s : State) : (s.withCfg v).chal = s.chal := rfl
@[simp] theorem withCfg_macc (v : Byte) (s : State) : (s.withCfg v).macc = s.macc := rfl
@[simp] theorem withCfg_node (v : Byte) (s : State) : (s.withCfg v).node = s.node := rfl
@[simp] theorem withCfg_buf (v : Byte) (s : State) : (s.withCfg v).buf = s.buf := rfl
@[simp] theorem withCfg_wkey (v : Byte) (s : State) : (s.withCfg v).wkey = s.wkey := rfl
@[simp] theorem withCfg_pending (v : Byte) (s : State) : (s.withCfg v).pending = s.pending := rfl
@[simp] theorem withCfg_observed (v : Byte) (s : State) : (s.withCfg v).observed = s.observed := rfl

/-! ### the host loads `BUF` -/

@[simp] theorem withBuf_cmd (v : Vector Byte 32) (s : State) : (s.withBuf v).cmd = s.cmd := rfl
@[simp] theorem withBuf_status (v : Vector Byte 32) (s : State) : (s.withBuf v).status = s.status := rfl
@[simp] theorem withBuf_err (v : Vector Byte 32) (s : State) : (s.withBuf v).err = s.err := rfl
@[simp] theorem withBuf_cfg (v : Vector Byte 32) (s : State) : (s.withBuf v).cfg = s.cfg := rfl
@[simp] theorem withBuf_din (v : Vector Byte 32) (s : State) : (s.withBuf v).din = s.din := rfl
@[simp] theorem withBuf_buflen (v : Vector Byte 32) (s : State) : (s.withBuf v).buflen = s.buflen := rfl
@[simp] theorem withBuf_crcl (v : Vector Byte 32) (s : State) : (s.withBuf v).crcl = s.crcl := rfl
@[simp] theorem withBuf_crch (v : Vector Byte 32) (s : State) : (s.withBuf v).crch = s.crch := rfl
@[simp] theorem withBuf_c1 (v : Vector Byte 32) (s : State) : (s.withBuf v).c1 = s.c1 := rfl
@[simp] theorem withBuf_c2 (v : Vector Byte 32) (s : State) : (s.withBuf v).c2 = s.c2 := rfl
@[simp] theorem withBuf_ctrl0 (v : Vector Byte 32) (s : State) : (s.withBuf v).ctrl0 = s.ctrl0 := rfl
@[simp] theorem withBuf_ctrl1 (v : Vector Byte 32) (s : State) : (s.withBuf v).ctrl1 = s.ctrl1 := rfl
@[simp] theorem withBuf_dst (v : Vector Byte 32) (s : State) : (s.withBuf v).dst = s.dst := rfl
@[simp] theorem withBuf_src (v : Vector Byte 32) (s : State) : (s.withBuf v).src = s.src := rfl
@[simp] theorem withBuf_opc (v : Vector Byte 32) (s : State) : (s.withBuf v).opc = s.opc := rfl
@[simp] theorem withBuf_plen (v : Vector Byte 32) (s : State) : (s.withBuf v).plen = s.plen := rfl
@[simp] theorem withBuf_rcl (v : Vector Byte 32) (s : State) : (s.withBuf v).rcl = s.rcl := rfl
@[simp] theorem withBuf_rch (v : Vector Byte 32) (s : State) : (s.withBuf v).rch = s.rch := rfl
@[simp] theorem withBuf_mac (v : Vector Byte 32) (s : State) : (s.withBuf v).mac = s.mac := rfl
@[simp] theorem withBuf_fcrcl (v : Vector Byte 32) (s : State) : (s.withBuf v).fcrcl = s.fcrcl := rfl
@[simp] theorem withBuf_fcrch (v : Vector Byte 32) (s : State) : (s.withBuf v).fcrch = s.fcrch := rfl
@[simp] theorem withBuf_tlen (v : Vector Byte 32) (s : State) : (s.withBuf v).tlen = s.tlen := rfl
@[simp] theorem withBuf_params (v : Vector Byte 32) (s : State) : (s.withBuf v).params = s.params := rfl
@[simp] theorem withBuf_key (v : Vector Byte 32) (s : State) : (s.withBuf v).key = s.key := rfl
@[simp] theorem withBuf_ain (v : Vector Byte 32) (s : State) : (s.withBuf v).ain = s.ain := rfl
@[simp] theorem withBuf_aout (v : Vector Byte 32) (s : State) : (s.withBuf v).aout = s.aout := rfl
@[simp] theorem withBuf_chal (v : Vector Byte 32) (s : State) : (s.withBuf v).chal = s.chal := rfl
@[simp] theorem withBuf_macc (v : Vector Byte 32) (s : State) : (s.withBuf v).macc = s.macc := rfl
@[simp] theorem withBuf_node (v : Vector Byte 32) (s : State) : (s.withBuf v).node = s.node := rfl
@[simp] theorem withBuf_buf (v : Vector Byte 32) (s : State) : (s.withBuf v).buf = v := rfl
@[simp] theorem withBuf_wkey (v : Vector Byte 32) (s : State) : (s.withBuf v).wkey = s.wkey := rfl
@[simp] theorem withBuf_pending (v : Vector Byte 32) (s : State) : (s.withBuf v).pending = s.pending := rfl
@[simp] theorem withBuf_observed (v : Vector Byte 32) (s : State) : (s.withBuf v).observed = s.observed := rfl

/-! ### the host loads `CHAL` -/

@[simp] theorem withChal_cmd (v : Vector Byte 6) (s : State) : (s.withChal v).cmd = s.cmd := rfl
@[simp] theorem withChal_status (v : Vector Byte 6) (s : State) : (s.withChal v).status = s.status := rfl
@[simp] theorem withChal_err (v : Vector Byte 6) (s : State) : (s.withChal v).err = s.err := rfl
@[simp] theorem withChal_cfg (v : Vector Byte 6) (s : State) : (s.withChal v).cfg = s.cfg := rfl
@[simp] theorem withChal_din (v : Vector Byte 6) (s : State) : (s.withChal v).din = s.din := rfl
@[simp] theorem withChal_buflen (v : Vector Byte 6) (s : State) : (s.withChal v).buflen = s.buflen := rfl
@[simp] theorem withChal_crcl (v : Vector Byte 6) (s : State) : (s.withChal v).crcl = s.crcl := rfl
@[simp] theorem withChal_crch (v : Vector Byte 6) (s : State) : (s.withChal v).crch = s.crch := rfl
@[simp] theorem withChal_c1 (v : Vector Byte 6) (s : State) : (s.withChal v).c1 = s.c1 := rfl
@[simp] theorem withChal_c2 (v : Vector Byte 6) (s : State) : (s.withChal v).c2 = s.c2 := rfl
@[simp] theorem withChal_ctrl0 (v : Vector Byte 6) (s : State) : (s.withChal v).ctrl0 = s.ctrl0 := rfl
@[simp] theorem withChal_ctrl1 (v : Vector Byte 6) (s : State) : (s.withChal v).ctrl1 = s.ctrl1 := rfl
@[simp] theorem withChal_dst (v : Vector Byte 6) (s : State) : (s.withChal v).dst = s.dst := rfl
@[simp] theorem withChal_src (v : Vector Byte 6) (s : State) : (s.withChal v).src = s.src := rfl
@[simp] theorem withChal_opc (v : Vector Byte 6) (s : State) : (s.withChal v).opc = s.opc := rfl
@[simp] theorem withChal_plen (v : Vector Byte 6) (s : State) : (s.withChal v).plen = s.plen := rfl
@[simp] theorem withChal_rcl (v : Vector Byte 6) (s : State) : (s.withChal v).rcl = s.rcl := rfl
@[simp] theorem withChal_rch (v : Vector Byte 6) (s : State) : (s.withChal v).rch = s.rch := rfl
@[simp] theorem withChal_mac (v : Vector Byte 6) (s : State) : (s.withChal v).mac = s.mac := rfl
@[simp] theorem withChal_fcrcl (v : Vector Byte 6) (s : State) : (s.withChal v).fcrcl = s.fcrcl := rfl
@[simp] theorem withChal_fcrch (v : Vector Byte 6) (s : State) : (s.withChal v).fcrch = s.fcrch := rfl
@[simp] theorem withChal_tlen (v : Vector Byte 6) (s : State) : (s.withChal v).tlen = s.tlen := rfl
@[simp] theorem withChal_params (v : Vector Byte 6) (s : State) : (s.withChal v).params = s.params := rfl
@[simp] theorem withChal_key (v : Vector Byte 6) (s : State) : (s.withChal v).key = s.key := rfl
@[simp] theorem withChal_ain (v : Vector Byte 6) (s : State) : (s.withChal v).ain = s.ain := rfl
@[simp] theorem withChal_aout (v : Vector Byte 6) (s : State) : (s.withChal v).aout = s.aout := rfl
@[simp] theorem withChal_chal (v : Vector Byte 6) (s : State) : (s.withChal v).chal = v := rfl
@[simp] theorem withChal_macc (v : Vector Byte 6) (s : State) : (s.withChal v).macc = s.macc := rfl
@[simp] theorem withChal_node (v : Vector Byte 6) (s : State) : (s.withChal v).node = s.node := rfl
@[simp] theorem withChal_buf (v : Vector Byte 6) (s : State) : (s.withChal v).buf = s.buf := rfl
@[simp] theorem withChal_wkey (v : Vector Byte 6) (s : State) : (s.withChal v).wkey = s.wkey := rfl
@[simp] theorem withChal_pending (v : Vector Byte 6) (s : State) : (s.withChal v).pending = s.pending := rfl
@[simp] theorem withChal_observed (v : Vector Byte 6) (s : State) : (s.withChal v).observed = s.observed := rfl

end Sys2Proof.Laws
end

