-- ==== Sys2Proof/Laws/Regs.lean ====
section
/-! SUPPORT. Registers by name and by address: read after write, what each update leaves of every register, and the
register map. -/
namespace Sys2Proof.Laws

open Sys2Proof.Machine

/-! ### Read after write -/

/-- A register written reads as what was written. -/
@[simp] theorem get_set_same (s : State) (r : Reg) (v : Byte) : (s.set r v).get r = v := by
  cases r <;> simp [State.set, State.get]

/-- Writing a register leaves every other register alone. -/
theorem get_set_other (s : State) (r q : Reg) (v : Byte) (h : q ≠ r) : (s.set r v).get q = s.get q := by
  cases r <;> cases q <;> first
    | rfl
    | exact absurd rfl h
    | exact Vector.getElem_set_ne (Fin.isLt _) (Fin.isLt _) fun e => h (congrArg _ (Fin.ext e.symm))

/-- Writing a register adds nothing to and takes nothing from the host's list. -/
@[simp] theorem set_pending (s : State) (r : Reg) (v : Byte) : (s.set r v).pending = s.pending := by cases r <;> rfl

/-- Writing a register returns nothing to the host. -/
@[simp] theorem set_observed (s : State) (r : Reg) (v : Byte) : (s.set r v).observed = s.observed := by cases r <;> rfl

/-- Two states that agree on every register and on the model's two lists are the same state. -/
theorem state_ext_get (s t : State) (h : ∀ r, s.get r = t.get r) (hp : s.pending = t.pending)
    (ho : s.observed = t.observed) : s = t := by
  have hv : ∀ {n : Nat} (a b : Vector Byte n), (∀ i : Fin n, a[i] = b[i]) → a = b := by
    intro n a b hab
    exact Vector.ext fun i hi => hab ⟨i, hi⟩
  have h1 := hv s.dst t.dst fun i => h (.dst i)
  have h2 := hv s.src t.src fun i => h (.src i)
  have h3 := hv s.mac t.mac fun i => h (.mac i)
  have h4 := hv s.params t.params fun i => h (.params i)
  have h5 := hv s.key t.key fun i => h (.key i)
  have h6 := hv s.ain t.ain fun i => h (.ain i)
  have h7 := hv s.aout t.aout fun i => h (.aout i)
  have h8 := hv s.chal t.chal fun i => h (.chal i)
  have h9 := hv s.macc t.macc fun i => h (.macc i)
  have h10 := hv s.node t.node fun i => h (.node i)
  have h11 := hv s.buf t.buf fun i => h (.buf i)
  have h12 := hv s.wkey t.wkey fun i => h (.wkey i)
  have e0 := h .cmd; have e1 := h .status; have e2 := h .err; have e3 := h .cfg; have e4 := h .din
  have e5 := h .buflen; have e6 := h .crcl; have e7 := h .crch; have e8 := h .c1; have e9 := h .c2
  have e10 := h .ctrl0; have e11 := h .ctrl1; have e12 := h .opc; have e13 := h .plen; have e14 := h .rcl
  have e15 := h .rch; have e16 := h .fcrcl; have e17 := h .fcrch; have e18 := h .tlen
  cases s; cases t
  simp only [State.get] at *
  subst_vars
  rfl

/-! ### What a command's ending and its error leave of the registers -/

/-- Every register but `CMD` is as before a command issue stored its byte. -/
theorem setCmd_get (c : Byte) (s : State) (r : Reg) : (s.setCmd c).get r = if r = .cmd then c else s.get r := by
  cases r <;> rfl

/-- The ending of a command without a result writes `ERR` and `STATUS` only. -/
theorem completePlain_get (s : State) (r : Reg) (h1 : r ≠ .err) (h2 : r ≠ .status) :
    (completePlain s).get r = s.get r := by
  cases r <;> first | rfl | contradiction

/-- `done` writes `ERR` only. -/
theorem complete_get (s : State) (r : Reg) (h : r ≠ .err) : (complete s).get r = s.get r := by
  cases r <;> first | rfl | contradiction

/-- `raise` writes `ERR` and `STATUS` only (60_exceptions.md R184). -/
theorem raise_get (k : ErrorKind) (s : State) (r : Reg) (h1 : r ≠ .err) (h2 : r ≠ .status) :
    (raise k s).get r = s.get r := by
  cases r <;> first | rfl | contradiction

/-- `raise … keeping STATUS.TRUNC` writes `ERR` and `STATUS` only. -/
theorem raiseKeepTrunc_get (k : ErrorKind) (s : State) (r : Reg) (h1 : r ≠ .err) (h2 : r ≠ .status) :
    (raiseKeepTrunc k s).get r = s.get r := by
  cases r <;> first | rfl | contradiction

/-- A new host list changes no register. -/
@[simp] theorem withHostList_get (ws : List HostWord) (s : State) (r : Reg) : (s.withHostList ws).get r = s.get r := by
  cases r <;> rfl

/-- Returning a byte to the host changes no register. -/
@[simp] theorem observe_get (b : Byte) (s : State) (r : Reg) : (s.observe b).get r = s.get r := by
  cases r <;> rfl

/-- Writing a register and replacing the host's list do not interfere. -/
theorem set_withHostList (ws : List HostWord) (s : State) (r : Reg) (v : Byte) :
    (s.withHostList ws).set r v = (s.set r v).withHostList ws := by
  cases r <;> rfl

/-! ### The register map -/

/-- One row of the map answers exactly at its own addresses. -/
theorem mapRow_some {base size : Nat} {cell : Fin size → Reg} {n : Nat} {r : Reg} :
    mapRow base size cell n = some r ↔ ∃ h : base ≤ n ∧ n < base + size, cell ⟨n - base, by omega⟩ = r := by
  unfold mapRow
  split
  · rename_i h; simp [h]
  · rename_i h; simp [h]

/-- A host write other than a command issue changes at most the register at its address (46_config_host.md R178). -/
theorem writeAt_get_other (s : State) (a v : Byte) (q : Reg) (h : regAt a ≠ some q) :
    (s.writeAt a v).get q = s.get q := by
  unfold State.writeAt
  split <;> first
    | rfl
    | (rename_i hr; exact get_set_other _ _ _ _ fun e => h (by rw [hr, e]))

@[simp] theorem writeAt_pending (s : State) (a v : Byte) : (s.writeAt a v).pending = s.pending := by
  unfold State.writeAt
  split <;> simp

@[simp] theorem writeAt_observed (s : State) (a v : Byte) : (s.writeAt a v).observed = s.observed := by
  unfold State.writeAt
  split <;> simp

end Sys2Proof.Laws
end

