-- ==== Sys2Proof/Laws/Endings.lean ====
section
/-! SUPPORT. How commands end: what `completePlain`, `complete`, `raise` and `raiseKeepTrunc` make of `STATUS` and
`ERR`, in the words of Sys2Proof/Safety.lean. -/
namespace Sys2Proof.Laws

open Sys2Proof.Machine

/-! ### The bits of STATUS -/

@[simp] theorem setMatch_matchFlag (v : Bool) (s : State) : (s.setMatch v).matchFlag = v := by
  simp [State.matchFlag, withBit_getElem]

@[simp] theorem setMatch_truncFlag (v : Bool) (s : State) : (s.setMatch v).truncFlag = s.truncFlag := by
  simp [State.truncFlag, withBit_getElem]

@[simp] theorem setMatch_initFlag (v : Bool) (s : State) : (s.setMatch v).initFlag = s.initFlag := by
  simp [State.initFlag, withBit_getElem]

@[simp] theorem setTrunc_matchFlag (v : Bool) (s : State) : (s.setTrunc v).matchFlag = s.matchFlag := by
  simp [State.matchFlag, withBit_getElem]

@[simp] theorem setTrunc_truncFlag (v : Bool) (s : State) : (s.setTrunc v).truncFlag = v := by
  simp [State.truncFlag, withBit_getElem]

@[simp] theorem setTrunc_initFlag (v : Bool) (s : State) : (s.setTrunc v).initFlag = s.initFlag := by
  simp [State.initFlag, withBit_getElem]

@[simp] theorem setInit_initFlag (v : Bool) (s : State) : (s.setInit v).initFlag = v := by
  simp [State.initFlag, withBit_getElem]

@[simp] theorem setInit_matchFlag (v : Bool) (s : State) : (s.setInit v).matchFlag = s.matchFlag := by
  simp [State.matchFlag, withBit_getElem]

@[simp] theorem setInit_truncFlag (v : Bool) (s : State) : (s.setInit v).truncFlag = s.truncFlag := by
  simp [State.truncFlag, withBit_getElem]

@[simp] theorem setCmd_initFlag (c : Byte) (s : State) : (s.setCmd c).initFlag = s.initFlag := rfl

@[simp] theorem setCmd_cfgMode (c : Byte) (s : State) : (s.setCmd c).cfgMode = s.cfgMode := rfl

@[simp] theorem setCmd_cfgKeyv (c : Byte) (s : State) : (s.setCmd c).cfgKeyv = s.cfgKeyv := rfl

@[simp] theorem setCmd_cfgChalv (c : Byte) (s : State) : (s.setCmd c).cfgChalv = s.cfgChalv := rfl

/-! ### The endings -/

/-- A command that completes without a result ends with `ERR = 0`, `MATCH = 0`, `TRUNC = 0` (60_exceptions.md R183). -/
theorem ends_completePlain {c : Byte} {s t : State} (hc : t.cmd = c) (hs : t.status = s.status) :
    Ends c 0x00 false false s (completePlain t) := by
  refine ⟨hc, rfl, ?_, ?_, ?_⟩
  · simp [State.matchFlag, withBit_getElem]
  · simp [State.truncFlag, withBit_getElem]
  · intro k h1 h2
    simp [withBit_getLsbD, h1, h2, hs]

/-- A command whose result is `m`, without truncation, ends so (40_crc.md R105, 44_mac_keywrap.md R143). -/
theorem ends_result {c : Byte} {s t : State} {m : Bool} (hc : t.cmd = c) (hs : t.status = s.status) :
    Ends c 0x00 m false s (complete ((t.setMatch m).setTrunc false)) := by
  refine ⟨hc, rfl, ?_, ?_, ?_⟩
  · simp [State.matchFlag, withBit_getElem]
  · simp [State.truncFlag, withBit_getElem]
  · intro k h1 h2
    simp [withBit_getLsbD, h1, h2, hs]

/-- A command that raises ends with the kind's code in `ERR`, `MATCH = 0`, `TRUNC = 0` (60_exceptions.md R184). -/
theorem ends_raise {c : Byte} {s t : State} (k : ErrorKind) (hc : t.cmd = c) (hs : t.status = s.status) :
    Ends c (errorCode k) false false s (raise k t) := by
  refine ⟨hc, rfl, ?_, ?_, ?_⟩
  · simp [State.matchFlag, withBit_getElem]
  · simp [State.truncFlag, withBit_getElem]
  · intro k h1 h2
    simp [withBit_getLsbD, h1, h2, hs]

/-- What a command that raises leaves: every register but `CMD`, `STATUS` and `ERR` (60_exceptions.md R185). -/
theorem keeps_raise_setCmd (k : ErrorKind) (c : Byte) (s : State) : Keeps endingReg s (raise k (s.setCmd c)) := by
  refine ⟨?_, rfl, rfl⟩
  intro r h
  cases r <;> first | rfl | simp [endingReg] at h

/-- A command that raises as its whole effect refuses with the kind's code (60_exceptions.md R184, R185). -/
theorem refusesWith_of_raise {i : Instr} {c : Byte} {s : State} (k : ErrorKind)
    (h : exec i s = .next (raise k (s.setCmd c))) : RefusesWith i c (errorCode k) s :=
  ⟨_, h, ends_raise k rfl rfl, keeps_raise_setCmd k c s⟩

/-- A frame may be weakened. -/
theorem Keeps_mono {v w : Reg → Bool} {s t : State} (h : Keeps v s t) (hvw : ∀ r, v r = true → w r = true) :
    Keeps w s t := by
  refine ⟨fun r hr => h.1 r ?_, h.2⟩
  cases hv : v r with
  | false => rfl
  | true => rw [hvw r hv] at hr; cases hr

/-- Frames compose. -/
theorem Keeps_trans {w : Reg → Bool} {s t u : State} (h1 : Keeps w s t) (h2 : Keeps w t u) : Keeps w s u :=
  ⟨fun r hr => (h2.1 r hr).trans (h1.1 r hr), h2.2.1.trans h1.2.1, h2.2.2.trans h1.2.2⟩

/-- A step that happened is the execution of the next transaction, or the idle step of an exhausted list
(46_config_host.md R178). -/
theorem step_cases {s t : State} (h : step s = .next t) :
    (s.pending = [] ∧ t = s) ∨
    ∃ w rest, s.pending = w :: rest ∧ exec (decode w) (s.withHostList rest) = .next t := by
  unfold step takeWord at h
  split at h
  · rename_i hn
    split at hn
    · rename_i hp; exact .inl ⟨hp, by cases h; rfl⟩
    · cases hn
  · rename_i w u hn
    split at hn
    · cases hn
    · rename_i w' rest hp
      cases hn
      exact .inr ⟨w, rest, hp, h⟩

/-- A run whose first step happens is the run from there. -/
theorem run_succ {s t : State} (n : Nat) (h : step s = .next t) :
    Sys2Proof.core.run (n + 1) s = Sys2Proof.core.run n t := by
  have hc : Sys2Proof.core.step s = .next t := h
  simp only [Host.Core.run, hc]

/-- The step after `withFetchWord` runs the word it was given. -/
theorem step_withFetchWord (s : State) (nbits w : Nat) (h : w % 2 ^ nbits < 2 ^ 17) :
    step (s.withFetchWord nbits w) = exec (decode (BitVec.ofNat 17 (w % 2 ^ nbits))) s := by
  unfold State.withFetchWord issueNext
  rw [if_pos h]
  rfl

end Sys2Proof.Laws
end

