-- ==== Sys2Proof/Laws/Frame.lean ====
section
/-! SUPPORT. Frame lengths, the tests of the frame and MAC commands in order, and what a parse can do. -/
namespace Sys2Proof.Laws

open Sys2Proof.Machine

/-! ### Lengths (30_encoding.md R70 to R73) -/

theorem rcFieldLen_eq (m : Bool) : rcFieldLen m = rollingLength m := rfl

/-- `tl = 17 + p + r`. -/
theorem totalLength_eq (m : Bool) (p : Nat) : totalLength m p = 17 + p + rollingLength m := rfl

theorem rollingLength_le (m : Bool) : rollingLength m ≤ 2 := by cases m <;> decide

/-- The length a ctrl0 byte states, in numbers. -/
theorem statedLength_eq (c : Byte) : statedLength c = c.toNat % 32 + 11 := by
  have h : c.toNat &&& 31 = c.toNat % 32 := Nat.and_two_pow_sub_one_eq_mod _ 5
  simp [statedLength, lengthFieldOf, h]

/-- The parameter length a ctrl0 byte states, in numbers. -/
theorem statedParams_eq (c : Byte) : statedParams c = c.toNat % 32 - 6 - rollingLength (modeOf c) := by
  simp only [statedParams, statedLength_eq, totalLength_eq]
  omega

theorem modeOf_eq (c : Byte) : modeOf c = c.getLsbD 5 := rfl

/-- The ctrl0 byte FRM.BUILD writes states the mode it was built for (45_frame_codec.md R150). -/
theorem modeOf_builtCtrl0 (m : Bool) (tl : Nat) (h : tl ≤ 32) : modeOf (builtCtrl0 m tl) = m := by
  interval_cases tl <;> cases m <;> decide

/-- The ctrl0 byte FRM.BUILD writes states the length it was built for (45_frame_codec.md R150). -/
theorem statedLength_builtCtrl0 (m : Bool) (tl : Nat) (h1 : 11 ≤ tl) (h2 : tl ≤ 32) :
    statedLength (builtCtrl0 m tl) = tl := by
  interval_cases tl <;> cases m <;> decide

/-- The ctrl0 byte FRM.BUILD writes, in numbers: bits 7:6 are zero. -/
theorem builtCtrl0_toNat (m : Bool) (tl : Nat) (h1 : 11 ≤ tl) (h2 : tl ≤ 32) :
    (builtCtrl0 m tl).toNat = (if m then 32 else 0) + (tl - 11) := by
  interval_cases tl <;> cases m <;> decide

/-! ### The tests of a command, in order (60_exceptions.md R186) -/

/-- What the tests of IV.BUILD, MAC.GEN and MAC.VFY answer (43_iv_builder.md R136). -/
theorem ivError_cases (s : State) :
    (s.plen.toNat > 21 ∧ ivError s = some .paramsOverflow) ∨
    (s.plen.toNat ≤ 21 ∧ s.cfgMode = true ∧ s.cfgChalv = false ∧ ivError s = some .challengeRequired) ∨
    (s.plen.toNat ≤ 21 ∧ (s.cfgMode = true → s.cfgChalv = true) ∧ ivError s = none) := by
  unfold ivError Config.paramsMax
  by_cases h : s.plen.toNat > 21 <;> cases hm : s.cfgMode <;> cases hc : s.cfgChalv <;> simp [h] <;> omega

/-- What the tests of FRM.BUILD answer (45_frame_codec.md R150). -/
theorem buildError_cases (s : State) :
    (s.initFlag = false ∧ buildError s = some .notInitialized) ∨
    (s.initFlag = true ∧ s.plen.toNat > 21 ∧ buildError s = some .paramsOverflow) ∨
    (s.initFlag = true ∧ s.plen.toNat ≤ 21 ∧ 17 + s.plen.toNat + rollingLength s.cfgMode > 32 ∧
      buildError s = some .bufferTooSmall) ∨
    (s.initFlag = true ∧ s.plen.toNat ≤ 21 ∧ 17 + s.plen.toNat + rollingLength s.cfgMode ≤ 32 ∧
      s.cfgMode = true ∧ s.cfgChalv = false ∧ buildError s = some .challengeRequired) ∨
    (s.initFlag = true ∧ s.plen.toNat ≤ 21 ∧ 17 + s.plen.toNat + rollingLength s.cfgMode ≤ 32 ∧
      (s.cfgMode = true → s.cfgChalv = true) ∧ buildError s = none) := by
  unfold buildError Config.paramsMax Config.frameMax
  simp only [totalLength_eq, Bool.not_eq_true', Bool.and_eq_true]
  split_ifs with hi h hl hm
  · exact .inl ⟨hi, rfl⟩
  · exact .inr (.inl ⟨by simpa using hi, h, rfl⟩)
  · exact .inr (.inr (.inl ⟨by simpa using hi, by omega, hl, rfl⟩))
  · exact .inr (.inr (.inr (.inl ⟨by simpa using hi, by omega, by omega, hm.1, hm.2, rfl⟩)))
  · exact .inr (.inr (.inr (.inr ⟨by simpa using hi, by omega, by omega, fun h => by simpa [h] using hm, rfl⟩)))

/-- What the tests of FRM.SER answer (45_frame_codec.md R153). -/
theorem serError_cases (s : State) :
    (s.initFlag = false ∧ serError s = some .notInitialized) ∨
    (s.initFlag = true ∧ s.plen.toNat > 21 ∧ serError s = some .paramsOverflow) ∨
    (s.initFlag = true ∧ s.plen.toNat ≤ 21 ∧ 17 + s.plen.toNat + rollingLength (modeOf s.ctrl0) > 32 ∧
      serError s = some .bufferTooSmall) ∨
    (s.initFlag = true ∧ s.plen.toNat ≤ 21 ∧ 17 + s.plen.toNat + rollingLength (modeOf s.ctrl0) ≤ 32 ∧
      statedLength s.ctrl0 ≠ 17 + s.plen.toNat + rollingLength (modeOf s.ctrl0) ∧
      serError s = some .lengthFieldMismatch) ∨
    (s.initFlag = true ∧ s.plen.toNat ≤ 21 ∧ 17 + s.plen.toNat + rollingLength (modeOf s.ctrl0) ≤ 32 ∧
      statedLength s.ctrl0 = 17 + s.plen.toNat + rollingLength (modeOf s.ctrl0) ∧ serError s = none) := by
  unfold serError Config.paramsMax Config.frameMax
  simp only [totalLength_eq, Bool.not_eq_true']
  by_cases hi : s.initFlag = false
  · exact .inl ⟨hi, by simp [hi]⟩
  have hi : s.initFlag = true := by simpa using hi
  by_cases h : s.plen.toNat > 21
  · exact .inr (.inl ⟨hi, h, by simp [hi, h]⟩)
  by_cases hl : 17 + s.plen.toNat + rollingLength (modeOf s.ctrl0) > 32
  · exact .inr (.inr (.inl ⟨hi, by omega, hl, by simp [hi, h, hl]⟩))
  by_cases he : statedLength s.ctrl0 = 17 + s.plen.toNat + rollingLength (modeOf s.ctrl0)
  · exact .inr (.inr (.inr (.inr ⟨hi, by omega, by omega, he, by simp [hi, h, hl, he]⟩)))
  · exact .inr (.inr (.inr (.inl ⟨hi, by omega, by omega, he, by simp [hi, h, hl, he]⟩)))

/-- What the tests of `parse()` answer (45_frame_codec.md R155). -/
theorem parseError_cases (s : State) :
    (s.buflen.toNat < 11 ∧ parseError s = some .frameTooShort) ∨
    (11 ≤ s.buflen.toNat ∧ 32 < statedLength (byteAt s.buf 0) ∧ parseError s = some .frameTooLong) ∨
    (11 ≤ s.buflen.toNat ∧ statedLength (byteAt s.buf 0) ≤ 32 ∧ s.buflen.toNat < statedLength (byteAt s.buf 0) ∧
      parseError s = some .lengthFieldMismatch) ∨
    (11 ≤ s.buflen.toNat ∧ statedLength (byteAt s.buf 0) ≤ 32 ∧ statedLength (byteAt s.buf 0) ≤ s.buflen.toNat ∧
      statedLength (byteAt s.buf 0) < 17 + rollingLength (modeOf (byteAt s.buf 0)) ∧
      parseError s = some .lengthFieldMismatch) ∨
    (11 ≤ s.buflen.toNat ∧ statedLength (byteAt s.buf 0) ≤ 32 ∧ statedLength (byteAt s.buf 0) ≤ s.buflen.toNat ∧
      17 + rollingLength (modeOf (byteAt s.buf 0)) ≤ statedLength (byteAt s.buf 0) ∧ parseError s = none) := by
  unfold parseError Config.parseMin Config.frameMax
  simp only [totalLength_eq, Nat.add_zero]
  by_cases h1 : s.buflen.toNat < 11
  · exact .inl ⟨h1, by simp [h1]⟩
  by_cases h2 : 32 < statedLength (byteAt s.buf 0)
  · exact .inr (.inl ⟨by omega, h2, by simp [h1, h2]⟩)
  by_cases h3 : s.buflen.toNat < statedLength (byteAt s.buf 0)
  · exact .inr (.inr (.inl ⟨by omega, by omega, h3, by simp [h1, h2, h3]⟩))
  by_cases h4 : statedLength (byteAt s.buf 0) < 17 + rollingLength (modeOf (byteAt s.buf 0))
  · exact .inr (.inr (.inr (.inl ⟨by omega, by omega, by omega, h4, by simp [h1, h2, h3, h4]⟩)))
  · exact .inr (.inr (.inr (.inr ⟨by omega, by omega, by omega, by omega, by simp [h1, h2, h3, h4]⟩)))

/-- What a parse can do: raise one of three kinds, or load the frame with a length that fits (45_frame_codec.md
R155). -/
theorem parse_cases (s : State) :
    (∃ k, parse s = .error k ∧ parseError s = some k ∧
      (k = .frameTooShort ∨ k = .frameTooLong ∨ k = .lengthFieldMismatch)) ∨
    (parse s = .ok (loadFrame s) ∧ parseError s = none ∧
      17 + rollingLength (modeOf (byteAt s.buf 0)) ≤ statedLength (byteAt s.buf 0) ∧
      statedLength (byteAt s.buf 0) ≤ 32 ∧ statedLength (byteAt s.buf 0) ≤ s.buflen.toNat) := by
  unfold parse
  rcases parseError_cases s with ⟨_, h⟩ | ⟨_, _, h⟩ | ⟨_, _, _, h⟩ | ⟨_, _, _, _, h⟩ | ⟨_, h1, h2, h3, h⟩ <;>
    simp [h]
  exact ⟨h3, h1, h2⟩

/-! ### A command issue changes none of what the tests read -/

@[simp] theorem ivError_setCmd (c : Byte) (s : State) : ivError (s.setCmd c) = ivError s := rfl

@[simp] theorem buildError_setCmd (c : Byte) (s : State) : buildError (s.setCmd c) = buildError s := rfl

@[simp] theorem serError_setCmd (c : Byte) (s : State) : serError (s.setCmd c) = serError s := rfl

@[simp] theorem parseError_setCmd (c : Byte) (s : State) : parseError (s.setCmd c) = parseError s := rfl

/-- No error kind has the code 0 (60_exceptions.md R180). -/
theorem errorCode_ne_zero (k : ErrorKind) : errorCode k ≠ 0x00 := by cases k <;> decide

/-! ### The commands, case by case -/

theorem frmBuild_of_error {s : State} {k : ErrorKind} (h : buildError s = some k) : frmBuild s = raise k s := by
  simp [frmBuild, h]

theorem frmBuild_of_none {s : State} (h : buildError s = none) :
    frmBuild s = completePlain (serialize s.cfgMode s.plen.toNat (totalLength s.cfgMode s.plen.toNat)
      (fillFrame s.cfgMode (totalLength s.cfgMode s.plen.toNat) s)) := by
  simp [frmBuild, h]

theorem frmSer_of_error {s : State} {k : ErrorKind} (h : serError s = some k) : frmSer s = raise k s := by
  simp [frmSer, h]

theorem frmSer_of_none {s : State} (h : serError s = none) :
    frmSer s = completePlain (serialize (modeOf s.ctrl0) s.plen.toNat
      (totalLength (modeOf s.ctrl0) s.plen.toNat) s) := by
  simp [frmSer, h]

theorem frmParse_of_not_init {s : State} (h : s.initFlag = false) : frmParse s = raise .notInitialized s := by
  simp [frmParse, h]

theorem frmParse_of_error {s : State} {k : ErrorKind} (hi : s.initFlag = true) (h : parseError s = some k) :
    frmParse s = raise k s := by
  simp [frmParse, parse, hi, h]

theorem frmParse_of_none {s : State} (hi : s.initFlag = true) (h : parseError s = none) :
    frmParse s = complete ((loadFrame s).setMatch false) := by
  simp [frmParse, parse, hi, h]

theorem frmValid_of_not_init {s : State} (h : s.initFlag = false) : frmValid s = raise .notInitialized s := by
  simp [frmValid, h]

theorem frmValid_of_error {s : State} {k : ErrorKind} (hi : s.initFlag = true) (h : parseError s = some k) :
    frmValid s = raise k s := by
  simp [frmValid, parse, hi, h]

theorem frmValid_of_none {s : State} (hi : s.initFlag = true) (h : parseError s = none) :
    frmValid s = validateFrame (loadFrame s) := by
  simp [frmValid, parse, hi, h]

/-- What FRM.VALID makes of a parsed frame, in the order of its tests (45_frame_codec.md R157). -/
theorem validateFrame_cases (p : State) :
    ((recomputeCrc p).crc ≠ p.fcrc ∧ validateFrame p = raiseKeepTrunc .badCrc (recomputeCrc p)) ∨
    ((recomputeCrc p).crc = p.fcrc ∧ modeOf p.ctrl0 = true ∧ p.cfgChalv = false ∧
      validateFrame p = raiseKeepTrunc .challengeRequired (recomputeCrc p)) ∨
    ((recomputeCrc p).crc = p.fcrc ∧ (modeOf p.ctrl0 = true → p.cfgChalv = true) ∧ p.cfgKeyv = true ∧
      validateFrame p =
        if ctEq6 (macStage (modeOf p.ctrl0) (recomputeCrc p)).macc p.mac then
          accept (macStage (modeOf p.ctrl0) (recomputeCrc p))
        else raiseKeepTrunc .badMac (macStage (modeOf p.ctrl0) (recomputeCrc p))) ∨
    ((recomputeCrc p).crc = p.fcrc ∧ (modeOf p.ctrl0 = true → p.cfgChalv = true) ∧ p.cfgKeyv = false ∧
      validateFrame p = accept (recomputeCrc p)) := by
  have he : validateFrame p =
      if (recomputeCrc p).crc ≠ p.fcrc then raiseKeepTrunc .badCrc (recomputeCrc p)
      else if modeOf p.ctrl0 && !p.cfgChalv then raiseKeepTrunc .challengeRequired (recomputeCrc p)
      else if p.cfgKeyv then
        if ctEq6 (macStage (modeOf p.ctrl0) (recomputeCrc p)).macc p.mac then
          accept (macStage (modeOf p.ctrl0) (recomputeCrc p))
        else raiseKeepTrunc .badMac (macStage (modeOf p.ctrl0) (recomputeCrc p))
      else accept (recomputeCrc p) := rfl
  rw [he]
  by_cases hc : (recomputeCrc p).crc = p.fcrc
  · cases h1 : modeOf p.ctrl0 <;> cases h2 : p.cfgChalv <;> cases h3 : p.cfgKeyv <;> simp [hc]
  · simp [hc]

end Sys2Proof.Laws
end

