-- ==== Sys2Proof/Laws/Stages.lean ====
section
/-! SUPPORT. One lemma per field for each stage of the MAC, key-wrap and frame commands. -/
namespace Sys2Proof.Laws

open Sys2Proof.Machine

/-! ### the IV stage (43_iv_builder.md R136) -/

@[simp] theorem ivStage_cmd (m : Bool) (s : State) : (ivStage m s).cmd = s.cmd := by simp only [ivStage]
@[simp] theorem ivStage_status (m : Bool) (s : State) : (ivStage m s).status = s.status := by simp only [ivStage]
@[simp] theorem ivStage_err (m : Bool) (s : State) : (ivStage m s).err = s.err := by simp only [ivStage]
@[simp] theorem ivStage_cfg (m : Bool) (s : State) : (ivStage m s).cfg = s.cfg := by simp only [ivStage]
@[simp] theorem ivStage_din (m : Bool) (s : State) : (ivStage m s).din = s.din := by simp only [ivStage]
@[simp] theorem ivStage_buflen (m : Bool) (s : State) : (ivStage m s).buflen = s.buflen := by simp only [ivStage]
@[simp] theorem ivStage_crcl (m : Bool) (s : State) : (ivStage m s).crcl = s.crcl := by simp only [ivStage]
@[simp] theorem ivStage_crch (m : Bool) (s : State) : (ivStage m s).crch = s.crch := by simp only [ivStage]
@[simp] theorem ivStage_c1 (m : Bool) (s : State) :
    (ivStage m s).c1 = (iv m s.payload s.rc s.chal)[8] := by simp only [ivStage]
@[simp] theorem ivStage_c2 (m : Bool) (s : State) :
    (ivStage m s).c2 = (iv m s.payload s.rc s.chal)[9] := by simp only [ivStage]
@[simp] theorem ivStage_ctrl0 (m : Bool) (s : State) : (ivStage m s).ctrl0 = s.ctrl0 := by simp only [ivStage]
@[simp] theorem ivStage_ctrl1 (m : Bool) (s : State) : (ivStage m s).ctrl1 = s.ctrl1 := by simp only [ivStage]
@[simp] theorem ivStage_dst (m : Bool) (s : State) : (ivStage m s).dst = s.dst := by simp only [ivStage]
@[simp] theorem ivStage_src (m : Bool) (s : State) : (ivStage m s).src = s.src := by simp only [ivStage]
@[simp] theorem ivStage_opc (m : Bool) (s : State) : (ivStage m s).opc = s.opc := by simp only [ivStage]
@[simp] theorem ivStage_plen (m : Bool) (s : State) : (ivStage m s).plen = s.plen := by simp only [ivStage]
@[simp] theorem ivStage_rcl (m : Bool) (s : State) : (ivStage m s).rcl = s.rcl := by simp only [ivStage]
@[simp] theorem ivStage_rch (m : Bool) (s : State) : (ivStage m s).rch = s.rch := by simp only [ivStage]
@[simp] theorem ivStage_mac (m : Bool) (s : State) : (ivStage m s).mac = s.mac := by simp only [ivStage]
@[simp] theorem ivStage_fcrcl (m : Bool) (s : State) : (ivStage m s).fcrcl = s.fcrcl := by simp only [ivStage]
@[simp] theorem ivStage_fcrch (m : Bool) (s : State) : (ivStage m s).fcrch = s.fcrch := by simp only [ivStage]
@[simp] theorem ivStage_tlen (m : Bool) (s : State) : (ivStage m s).tlen = s.tlen := by simp only [ivStage]
@[simp] theorem ivStage_params (m : Bool) (s : State) : (ivStage m s).params = s.params := by simp only [ivStage]
@[simp] theorem ivStage_key (m : Bool) (s : State) : (ivStage m s).key = s.key := by simp only [ivStage]
@[simp] theorem ivStage_ain (m : Bool) (s : State) :
    (ivStage m s).ain = iv m s.payload s.rc s.chal := by simp only [ivStage]
@[simp] theorem ivStage_aout (m : Bool) (s : State) : (ivStage m s).aout = s.aout := by simp only [ivStage]
@[simp] theorem ivStage_chal (m : Bool) (s : State) : (ivStage m s).chal = s.chal := by simp only [ivStage]
@[simp] theorem ivStage_macc (m : Bool) (s : State) : (ivStage m s).macc = s.macc := by simp only [ivStage]
@[simp] theorem ivStage_node (m : Bool) (s : State) : (ivStage m s).node = s.node := by simp only [ivStage]
@[simp] theorem ivStage_buf (m : Bool) (s : State) : (ivStage m s).buf = s.buf := by simp only [ivStage]
@[simp] theorem ivStage_wkey (m : Bool) (s : State) : (ivStage m s).wkey = s.wkey := by simp only [ivStage]
@[simp] theorem ivStage_pending (m : Bool) (s : State) : (ivStage m s).pending = s.pending := by simp only [ivStage]
@[simp] theorem ivStage_observed (m : Bool) (s : State) :
    (ivStage m s).observed = s.observed := by simp only [ivStage]

/-! ### the cipher stage (44_mac_keywrap.md R141) -/

@[simp] theorem cipherStage_cmd (s : State) : (cipherStage s).cmd = s.cmd := by simp only [cipherStage]
@[simp] theorem cipherStage_status (s : State) : (cipherStage s).status = s.status := by simp only [cipherStage]
@[simp] theorem cipherStage_err (s : State) : (cipherStage s).err = s.err := by simp only [cipherStage]
@[simp] theorem cipherStage_cfg (s : State) : (cipherStage s).cfg = s.cfg := by simp only [cipherStage]
@[simp] theorem cipherStage_din (s : State) : (cipherStage s).din = s.din := by simp only [cipherStage]
@[simp] theorem cipherStage_buflen (s : State) : (cipherStage s).buflen = s.buflen := by simp only [cipherStage]
@[simp] theorem cipherStage_crcl (s : State) : (cipherStage s).crcl = s.crcl := by simp only [cipherStage]
@[simp] theorem cipherStage_crch (s : State) : (cipherStage s).crch = s.crch := by simp only [cipherStage]
@[simp] theorem cipherStage_c1 (s : State) : (cipherStage s).c1 = s.c1 := by simp only [cipherStage]
@[simp] theorem cipherStage_c2 (s : State) : (cipherStage s).c2 = s.c2 := by simp only [cipherStage]
@[simp] theorem cipherStage_ctrl0 (s : State) : (cipherStage s).ctrl0 = s.ctrl0 := by simp only [cipherStage]
@[simp] theorem cipherStage_ctrl1 (s : State) : (cipherStage s).ctrl1 = s.ctrl1 := by simp only [cipherStage]
@[simp] theorem cipherStage_dst (s : State) : (cipherStage s).dst = s.dst := by simp only [cipherStage]
@[simp] theorem cipherStage_src (s : State) : (cipherStage s).src = s.src := by simp only [cipherStage]
@[simp] theorem cipherStage_opc (s : State) : (cipherStage s).opc = s.opc := by simp only [cipherStage]
@[simp] theorem cipherStage_plen (s : State) : (cipherStage s).plen = s.plen := by simp only [cipherStage]
@[simp] theorem cipherStage_rcl (s : State) : (cipherStage s).rcl = s.rcl := by simp only [cipherStage]
@[simp] theorem cipherStage_rch (s : State) : (cipherStage s).rch = s.rch := by simp only [cipherStage]
@[simp] theorem cipherStage_mac (s : State) : (cipherStage s).mac = s.mac := by simp only [cipherStage]
@[simp] theorem cipherStage_fcrcl (s : State) : (cipherStage s).fcrcl = s.fcrcl := by simp only [cipherStage]
@[simp] theorem cipherStage_fcrch (s : State) : (cipherStage s).fcrch = s.fcrch := by simp only [cipherStage]
@[simp] theorem cipherStage_tlen (s : State) : (cipherStage s).tlen = s.tlen := by simp only [cipherStage]
@[simp] theorem cipherStage_params (s : State) : (cipherStage s).params = s.params := by simp only [cipherStage]
@[simp] theorem cipherStage_key (s : State) : (cipherStage s).key = s.key := by simp only [cipherStage]
@[simp] theorem cipherStage_ain (s : State) : (cipherStage s).ain = s.ain := by simp only [cipherStage]
@[simp] theorem cipherStage_aout (s : State) : (cipherStage s).aout = aes128 s.key s.ain := by simp only [cipherStage]
@[simp] theorem cipherStage_chal (s : State) : (cipherStage s).chal = s.chal := by simp only [cipherStage]
@[simp] theorem cipherStage_macc (s : State) :
    (cipherStage s).macc = macOf (aes128 s.key s.ain) := by simp only [cipherStage]
@[simp] theorem cipherStage_node (s : State) : (cipherStage s).node = s.node := by simp only [cipherStage]
@[simp] theorem cipherStage_buf (s : State) : (cipherStage s).buf = s.buf := by simp only [cipherStage]
@[simp] theorem cipherStage_wkey (s : State) : (cipherStage s).wkey = s.wkey := by simp only [cipherStage]
@[simp] theorem cipherStage_pending (s : State) : (cipherStage s).pending = s.pending := by simp only [cipherStage]
@[simp] theorem cipherStage_observed (s : State) : (cipherStage s).observed = s.observed := by simp only [cipherStage]

/-! ### the MAC computation (44_mac_keywrap.md R141) -/

@[simp] theorem macStage_cmd (m : Bool) (s : State) : (macStage m s).cmd = s.cmd := by simp [macStage]
@[simp] theorem macStage_status (m : Bool) (s : State) : (macStage m s).status = s.status := by simp [macStage]
@[simp] theorem macStage_err (m : Bool) (s : State) : (macStage m s).err = s.err := by simp [macStage]
@[simp] theorem macStage_cfg (m : Bool) (s : State) : (macStage m s).cfg = s.cfg := by simp [macStage]
@[simp] theorem macStage_din (m : Bool) (s : State) : (macStage m s).din = s.din := by simp [macStage]
@[simp] theorem macStage_buflen (m : Bool) (s : State) : (macStage m s).buflen = s.buflen := by simp [macStage]
@[simp] theorem macStage_crcl (m : Bool) (s : State) : (macStage m s).crcl = s.crcl := by simp [macStage]
@[simp] theorem macStage_crch (m : Bool) (s : State) : (macStage m s).crch = s.crch := by simp [macStage]
@[simp] theorem macStage_c1 (m : Bool) (s : State) :
    (macStage m s).c1 = (iv m s.payload s.rc s.chal)[8] := by simp [macStage]
@[simp] theorem macStage_c2 (m : Bool) (s : State) :
    (macStage m s).c2 = (iv m s.payload s.rc s.chal)[9] := by simp [macStage]
@[simp] theorem macStage_ctrl0 (m : Bool) (s : State) : (macStage m s).ctrl0 = s.ctrl0 := by simp [macStage]
@[simp] theorem macStage_ctrl1 (m : Bool) (s : State) : (macStage m s).ctrl1 = s.ctrl1 := by simp [macStage]
@[simp] theorem macStage_dst (m : Bool) (s : State) : (macStage m s).dst = s.dst := by simp [macStage]
@[simp] theorem macStage_src (m : Bool) (s : State) : (macStage m s).src = s.src := by simp [macStage]
@[simp] theorem macStage_opc (m : Bool) (s : State) : (macStage m s).opc = s.opc := by simp [macStage]
@[simp] theorem macStage_plen (m : Bool) (s : State) : (macStage m s).plen = s.plen := by simp [macStage]
@[simp] theorem macStage_rcl (m : Bool) (s : State) : (macStage m s).rcl = s.rcl := by simp [macStage]
@[simp] theorem macStage_rch (m : Bool) (s : State) : (macStage m s).rch = s.rch := by simp [macStage]
@[simp] theorem macStage_mac (m : Bool) (s : State) : (macStage m s).mac = s.mac := by simp [macStage]
@[simp] theorem macStage_fcrcl (m : Bool) (s : State) : (macStage m s).fcrcl = s.fcrcl := by simp [macStage]
@[simp] theorem macStage_fcrch (m : Bool) (s : State) : (macStage m s).fcrch = s.fcrch := by simp [macStage]
@[simp] theorem macStage_tlen (m : Bool) (s : State) : (macStage m s).tlen = s.tlen := by simp [macStage]
@[simp] theorem macStage_params (m : Bool) (s : State) : (macStage m s).params = s.params := by simp [macStage]
@[simp] theorem macStage_key (m : Bool) (s : State) : (macStage m s).key = s.key := by simp [macStage]
@[simp] theorem macStage_ain (m : Bool) (s : State) :
    (macStage m s).ain = iv m s.payload s.rc s.chal := by simp [macStage]
@[simp] theorem macStage_aout (m : Bool) (s : State) :
    (macStage m s).aout = aes128 s.key (iv m s.payload s.rc s.chal) := by simp [macStage]
@[simp] theorem macStage_chal (m : Bool) (s : State) : (macStage m s).chal = s.chal := by simp [macStage]
@[simp] theorem macStage_macc (m : Bool) (s : State) :
    (macStage m s).macc = macOf (aes128 s.key (iv m s.payload s.rc s.chal)) := by simp [macStage]
@[simp] theorem macStage_node (m : Bool) (s : State) : (macStage m s).node = s.node := by simp [macStage]
@[simp] theorem macStage_buf (m : Bool) (s : State) : (macStage m s).buf = s.buf := by simp [macStage]
@[simp] theorem macStage_wkey (m : Bool) (s : State) : (macStage m s).wkey = s.wkey := by simp [macStage]
@[simp] theorem macStage_pending (m : Bool) (s : State) : (macStage m s).pending = s.pending := by simp [macStage]
@[simp] theorem macStage_observed (m : Bool) (s : State) : (macStage m s).observed = s.observed := by simp [macStage]

/-! ### the fields FRM.BUILD computes (45_frame_codec.md R150) -/

@[simp] theorem fillFrame_cmd (m : Bool) (tl : Nat) (s : State) :
    (fillFrame m tl s).cmd = s.cmd := by simp [fillFrame]
@[simp] theorem fillFrame_status (m : Bool) (tl : Nat) (s : State) :
    (fillFrame m tl s).status = s.status := by simp [fillFrame]
@[simp] theorem fillFrame_err (m : Bool) (tl : Nat) (s : State) :
    (fillFrame m tl s).err = s.err := by simp [fillFrame]
@[simp] theorem fillFrame_cfg (m : Bool) (tl : Nat) (s : State) :
    (fillFrame m tl s).cfg = s.cfg := by simp [fillFrame]
@[simp] theorem fillFrame_din (m : Bool) (tl : Nat) (s : State) :
    (fillFrame m tl s).din = s.din := by simp [fillFrame]
@[simp] theorem fillFrame_buflen (m : Bool) (tl : Nat) (s : State) :
    (fillFrame m tl s).buflen = s.buflen := by simp [fillFrame]
@[simp] theorem fillFrame_crcl (m : Bool) (tl : Nat) (s : State) :
    (fillFrame m tl s).crcl = s.crcl := by simp [fillFrame]
@[simp] theorem fillFrame_crch (m : Bool) (tl : Nat) (s : State) :
    (fillFrame m tl s).crch = s.crch := by simp [fillFrame]
@[simp] theorem fillFrame_c1 (m : Bool) (tl : Nat) (s : State) :
    (fillFrame m tl s).c1 =
      (iv m s.payload s.rc s.chal)[8] := by simp [fillFrame, State.payload, State.paramBytes, State.rc]
@[simp] theorem fillFrame_c2 (m : Bool) (tl : Nat) (s : State) :
    (fillFrame m tl s).c2 =
      (iv m s.payload s.rc s.chal)[9] := by simp [fillFrame, State.payload, State.paramBytes, State.rc]
@[simp] theorem fillFrame_ctrl0 (m : Bool) (tl : Nat) (s : State) :
    (fillFrame m tl s).ctrl0 = builtCtrl0 m tl := by simp [fillFrame]
@[simp] theorem fillFrame_ctrl1 (m : Bool) (tl : Nat) (s : State) :
    (fillFrame m tl s).ctrl1 = 0x00 := by simp [fillFrame]
@[simp] theorem fillFrame_dst (m : Bool) (tl : Nat) (s : State) :
    (fillFrame m tl s).dst = s.dst := by simp [fillFrame]
@[simp] theorem fillFrame_src (m : Bool) (tl : Nat) (s : State) :
    (fillFrame m tl s).src = s.src := by simp [fillFrame]
@[simp] theorem fillFrame_opc (m : Bool) (tl : Nat) (s : State) :
    (fillFrame m tl s).opc = s.opc := by simp [fillFrame]
@[simp] theorem fillFrame_plen (m : Bool) (tl : Nat) (s : State) :
    (fillFrame m tl s).plen = s.plen := by simp [fillFrame]
@[simp] theorem fillFrame_rcl (m : Bool) (tl : Nat) (s : State) :
    (fillFrame m tl s).rcl = s.rcl := by simp [fillFrame]
@[simp] theorem fillFrame_rch (m : Bool) (tl : Nat) (s : State) :
    (fillFrame m tl s).rch = s.rch := by simp [fillFrame]
@[simp] theorem fillFrame_mac (m : Bool) (tl : Nat) (s : State) :
    (fillFrame m tl s).mac =
      macOf (aes128 s.key (iv m s.payload s.rc s.chal)) := by
    simp [fillFrame, State.payload, State.paramBytes, State.rc]
@[simp] theorem fillFrame_fcrcl (m : Bool) (tl : Nat) (s : State) :
    (fillFrame m tl s).fcrcl = s.fcrcl := by simp [fillFrame]
@[simp] theorem fillFrame_fcrch (m : Bool) (tl : Nat) (s : State) :
    (fillFrame m tl s).fcrch = s.fcrch := by simp [fillFrame]
@[simp] theorem fillFrame_tlen (m : Bool) (tl : Nat) (s : State) :
    (fillFrame m tl s).tlen = s.tlen := by simp [fillFrame]
@[simp] theorem fillFrame_params (m : Bool) (tl : Nat) (s : State) :
    (fillFrame m tl s).params = s.params := by simp [fillFrame]
@[simp] theorem fillFrame_key (m : Bool) (tl : Nat) (s : State) :
    (fillFrame m tl s).key = s.key := by simp [fillFrame]
@[simp] theorem fillFrame_ain (m : Bool) (tl : Nat) (s : State) :
    (fillFrame m tl s).ain =
      iv m s.payload s.rc s.chal := by simp [fillFrame, State.payload, State.paramBytes, State.rc]
@[simp] theorem fillFrame_aout (m : Bool) (tl : Nat) (s : State) :
    (fillFrame m tl s).aout =
      aes128 s.key (iv m s.payload s.rc s.chal) := by simp [fillFrame, State.payload, State.paramBytes, State.rc]
@[simp] theorem fillFrame_chal (m : Bool) (tl : Nat) (s : State) :
    (fillFrame m tl s).chal = s.chal := by simp [fillFrame]
@[simp] theorem fillFrame_macc (m : Bool) (tl : Nat) (s : State) :
    (fillFrame m tl s).macc =
      macOf (aes128 s.key (iv m s.payload s.rc s.chal)) := by
    simp [fillFrame, State.payload, State.paramBytes, State.rc]
@[simp] theorem fillFrame_node (m : Bool) (tl : Nat) (s : State) :
    (fillFrame m tl s).node = s.node := by simp [fillFrame]
@[simp] theorem fillFrame_buf (m : Bool) (tl : Nat) (s : State) :
    (fillFrame m tl s).buf = s.buf := by simp [fillFrame]
@[simp] theorem fillFrame_wkey (m : Bool) (tl : Nat) (s : State) :
    (fillFrame m tl s).wkey = s.wkey := by simp [fillFrame]
@[simp] theorem fillFrame_pending (m : Bool) (tl : Nat) (s : State) :
    (fillFrame m tl s).pending = s.pending := by simp [fillFrame]
@[simp] theorem fillFrame_observed (m : Bool) (tl : Nat) (s : State) :
    (fillFrame m tl s).observed = s.observed := by simp [fillFrame]

/-! ### the key wrap (44_mac_keywrap.md R145, R146) -/

@[simp] theorem wrapStage_cmd (block : Block) (s : State) :
    (wrapStage block s).cmd = s.cmd := by simp only [wrapStage]
@[simp] theorem wrapStage_status (block : Block) (s : State) :
    (wrapStage block s).status = s.status := by simp only [wrapStage]
@[simp] theorem wrapStage_err (block : Block) (s : State) :
    (wrapStage block s).err = s.err := by simp only [wrapStage]
@[simp] theorem wrapStage_cfg (block : Block) (s : State) :
    (wrapStage block s).cfg = s.cfg := by simp only [wrapStage]
@[simp] theorem wrapStage_din (block : Block) (s : State) :
    (wrapStage block s).din = s.din := by simp only [wrapStage]
@[simp] theorem wrapStage_buflen (block : Block) (s : State) :
    (wrapStage block s).buflen = s.buflen := by simp only [wrapStage]
@[simp] theorem wrapStage_crcl (block : Block) (s : State) :
    (wrapStage block s).crcl = s.crcl := by simp only [wrapStage]
@[simp] theorem wrapStage_crch (block : Block) (s : State) :
    (wrapStage block s).crch = s.crch := by simp only [wrapStage]
@[simp] theorem wrapStage_c1 (block : Block) (s : State) : (wrapStage block s).c1 = s.c1 := by simp only [wrapStage]
@[simp] theorem wrapStage_c2 (block : Block) (s : State) : (wrapStage block s).c2 = s.c2 := by simp only [wrapStage]
@[simp] theorem wrapStage_ctrl0 (block : Block) (s : State) :
    (wrapStage block s).ctrl0 = s.ctrl0 := by simp only [wrapStage]
@[simp] theorem wrapStage_ctrl1 (block : Block) (s : State) :
    (wrapStage block s).ctrl1 = s.ctrl1 := by simp only [wrapStage]
@[simp] theorem wrapStage_dst (block : Block) (s : State) :
    (wrapStage block s).dst = s.dst := by simp only [wrapStage]
@[simp] theorem wrapStage_src (block : Block) (s : State) :
    (wrapStage block s).src = s.src := by simp only [wrapStage]
@[simp] theorem wrapStage_opc (block : Block) (s : State) :
    (wrapStage block s).opc = s.opc := by simp only [wrapStage]
@[simp] theorem wrapStage_plen (block : Block) (s : State) :
    (wrapStage block s).plen = s.plen := by simp only [wrapStage]
@[simp] theorem wrapStage_rcl (block : Block) (s : State) :
    (wrapStage block s).rcl = s.rcl := by simp only [wrapStage]
@[simp] theorem wrapStage_rch (block : Block) (s : State) :
    (wrapStage block s).rch = s.rch := by simp only [wrapStage]
@[simp] theorem wrapStage_mac (block : Block) (s : State) :
    (wrapStage block s).mac = s.mac := by simp only [wrapStage]
@[simp] theorem wrapStage_fcrcl (block : Block) (s : State) :
    (wrapStage block s).fcrcl = s.fcrcl := by simp only [wrapStage]
@[simp] theorem wrapStage_fcrch (block : Block) (s : State) :
    (wrapStage block s).fcrch = s.fcrch := by simp only [wrapStage]
@[simp] theorem wrapStage_tlen (block : Block) (s : State) :
    (wrapStage block s).tlen = s.tlen := by simp only [wrapStage]
@[simp] theorem wrapStage_params (block : Block) (s : State) :
    (wrapStage block s).params = s.params := by simp only [wrapStage]
@[simp] theorem wrapStage_key (block : Block) (s : State) :
    (wrapStage block s).key = s.key := by simp only [wrapStage]
@[simp] theorem wrapStage_ain (block : Block) (s : State) :
    (wrapStage block s).ain = block := by simp only [wrapStage]
@[simp] theorem wrapStage_aout (block : Block) (s : State) :
    (wrapStage block s).aout = aes128 transferKey block := by simp only [wrapStage]
@[simp] theorem wrapStage_chal (block : Block) (s : State) :
    (wrapStage block s).chal = s.chal := by simp only [wrapStage]
@[simp] theorem wrapStage_macc (block : Block) (s : State) :
    (wrapStage block s).macc = s.macc := by simp only [wrapStage]
@[simp] theorem wrapStage_node (block : Block) (s : State) :
    (wrapStage block s).node = s.node := by simp only [wrapStage]
@[simp] theorem wrapStage_buf (block : Block) (s : State) :
    (wrapStage block s).buf = s.buf := by simp only [wrapStage]
@[simp] theorem wrapStage_wkey (block : Block) (s : State) :
    (wrapStage block s).wkey = xorBlock s.key (aes128 transferKey block) := by simp only [wrapStage]
@[simp] theorem wrapStage_pending (block : Block) (s : State) :
    (wrapStage block s).pending = s.pending := by simp only [wrapStage]
@[simp] theorem wrapStage_observed (block : Block) (s : State) :
    (wrapStage block s).observed = s.observed := by simp only [wrapStage]

/-! ### serializing (45_frame_codec.md R154) -/

@[simp] theorem serialize_cmd (m : Bool) (p tl : Nat) (s : State) :
    (serialize m p tl s).cmd = s.cmd := by simp only [serialize, State.setCrc, State.setFcrc]
@[simp] theorem serialize_status (m : Bool) (p tl : Nat) (s : State) :
    (serialize m p tl s).status = s.status := by simp only [serialize, State.setCrc, State.setFcrc]
@[simp] theorem serialize_err (m : Bool) (p tl : Nat) (s : State) :
    (serialize m p tl s).err = s.err := by simp only [serialize, State.setCrc, State.setFcrc]
@[simp] theorem serialize_cfg (m : Bool) (p tl : Nat) (s : State) :
    (serialize m p tl s).cfg = s.cfg := by simp only [serialize, State.setCrc, State.setFcrc]
@[simp] theorem serialize_din (m : Bool) (p tl : Nat) (s : State) :
    (serialize m p tl s).din = s.din := by simp only [serialize, State.setCrc, State.setFcrc]
@[simp] theorem serialize_buflen (m : Bool) (p tl : Nat) (s : State) :
    (serialize m p tl s).buflen = BitVec.ofNat 8 tl := by simp only [serialize, State.setCrc, State.setFcrc]
@[simp] theorem serialize_crcl (m : Bool) (p tl : Nat) (s : State) :
    (serialize m p tl s).crcl =
      loByte (crc16 (frameBody m p s)) := by simp only [serialize, State.setCrc, State.setFcrc]
@[simp] theorem serialize_crch (m : Bool) (p tl : Nat) (s : State) :
    (serialize m p tl s).crch =
      hiByte (crc16 (frameBody m p s)) := by simp only [serialize, State.setCrc, State.setFcrc]
@[simp] theorem serialize_c1 (m : Bool) (p tl : Nat) (s : State) :
    (serialize m p tl s).c1 = s.c1 := by simp only [serialize, State.setCrc, State.setFcrc]
@[simp] theorem serialize_c2 (m : Bool) (p tl : Nat) (s : State) :
    (serialize m p tl s).c2 = s.c2 := by simp only [serialize, State.setCrc, State.setFcrc]
@[simp] theorem serialize_ctrl0 (m : Bool) (p tl : Nat) (s : State) :
    (serialize m p tl s).ctrl0 = s.ctrl0 := by simp only [serialize, State.setCrc, State.setFcrc]
@[simp] theorem serialize_ctrl1 (m : Bool) (p tl : Nat) (s : State) :
    (serialize m p tl s).ctrl1 = s.ctrl1 := by simp only [serialize, State.setCrc, State.setFcrc]
@[simp] theorem serialize_dst (m : Bool) (p tl : Nat) (s : State) :
    (serialize m p tl s).dst = s.dst := by simp only [serialize, State.setCrc, State.setFcrc]
@[simp] theorem serialize_src (m : Bool) (p tl : Nat) (s : State) :
    (serialize m p tl s).src = s.src := by simp only [serialize, State.setCrc, State.setFcrc]
@[simp] theorem serialize_opc (m : Bool) (p tl : Nat) (s : State) :
    (serialize m p tl s).opc = s.opc := by simp only [serialize, State.setCrc, State.setFcrc]
@[simp] theorem serialize_plen (m : Bool) (p tl : Nat) (s : State) :
    (serialize m p tl s).plen = s.plen := by simp only [serialize, State.setCrc, State.setFcrc]
@[simp] theorem serialize_rcl (m : Bool) (p tl : Nat) (s : State) :
    (serialize m p tl s).rcl = s.rcl := by simp only [serialize, State.setCrc, State.setFcrc]
@[simp] theorem serialize_rch (m : Bool) (p tl : Nat) (s : State) :
    (serialize m p tl s).rch = s.rch := by simp only [serialize, State.setCrc, State.setFcrc]
@[simp] theorem serialize_mac (m : Bool) (p tl : Nat) (s : State) :
    (serialize m p tl s).mac = s.mac := by simp only [serialize, State.setCrc, State.setFcrc]
@[simp] theorem serialize_fcrcl (m : Bool) (p tl : Nat) (s : State) :
    (serialize m p tl s).fcrcl =
      loByte (crc16 (frameBody m p s)) := by simp only [serialize, State.setCrc, State.setFcrc]
@[simp] theorem serialize_fcrch (m : Bool) (p tl : Nat) (s : State) :
    (serialize m p tl s).fcrch =
      hiByte (crc16 (frameBody m p s)) := by simp only [serialize, State.setCrc, State.setFcrc]
@[simp] theorem serialize_tlen (m : Bool) (p tl : Nat) (s : State) :
    (serialize m p tl s).tlen = BitVec.ofNat 8 tl := by simp only [serialize, State.setCrc, State.setFcrc]
@[simp] theorem serialize_params (m : Bool) (p tl : Nat) (s : State) :
    (serialize m p tl s).params = s.params := by simp only [serialize, State.setCrc, State.setFcrc]
@[simp] theorem serialize_key (m : Bool) (p tl : Nat) (s : State) :
    (serialize m p tl s).key = s.key := by simp only [serialize, State.setCrc, State.setFcrc]
@[simp] theorem serialize_ain (m : Bool) (p tl : Nat) (s : State) :
    (serialize m p tl s).ain = s.ain := by simp only [serialize, State.setCrc, State.setFcrc]
@[simp] theorem serialize_aout (m : Bool) (p tl : Nat) (s : State) :
    (serialize m p tl s).aout = s.aout := by simp only [serialize, State.setCrc, State.setFcrc]
@[simp] theorem serialize_chal (m : Bool) (p tl : Nat) (s : State) :
    (serialize m p tl s).chal = s.chal := by simp only [serialize, State.setCrc, State.setFcrc]
@[simp] theorem serialize_macc (m : Bool) (p tl : Nat) (s : State) :
    (serialize m p tl s).macc = s.macc := by simp only [serialize, State.setCrc, State.setFcrc]
@[simp] theorem serialize_node (m : Bool) (p tl : Nat) (s : State) :
    (serialize m p tl s).node = s.node := by simp only [serialize, State.setCrc, State.setFcrc]
@[simp] theorem serialize_buf (m : Bool) (p tl : Nat) (s : State) :
    (serialize m p tl s).buf =
      patch s.buf 0 (frameBody m p s ++ le16 (crc16 (frameBody m p s))) := by
    simp only [serialize, State.setCrc, State.setFcrc]
@[simp] theorem serialize_wkey (m : Bool) (p tl : Nat) (s : State) :
    (serialize m p tl s).wkey = s.wkey := by simp only [serialize, State.setCrc, State.setFcrc]
@[simp] theorem serialize_pending (m : Bool) (p tl : Nat) (s : State) :
    (serialize m p tl s).pending = s.pending := by simp only [serialize, State.setCrc, State.setFcrc]
@[simp] theorem serialize_observed (m : Bool) (p tl : Nat) (s : State) :
    (serialize m p tl s).observed = s.observed := by simp only [serialize, State.setCrc, State.setFcrc]

/-! ### the writes of a parse (45_frame_codec.md R155) -/

@[simp] theorem loadFrame_cmd (s : State) : (loadFrame s).cmd = s.cmd := by simp only [loadFrame, State.setTrunc]
@[simp] theorem loadFrame_status (s : State) :
    (loadFrame s).status =
      withBit s.status 2 (decide (s.buflen.toNat > statedLength (byteAt s.buf 0))) := by
    simp only [loadFrame, State.setTrunc]
@[simp] theorem loadFrame_err (s : State) : (loadFrame s).err = s.err := by simp only [loadFrame, State.setTrunc]
@[simp] theorem loadFrame_cfg (s : State) : (loadFrame s).cfg = s.cfg := by simp only [loadFrame, State.setTrunc]
@[simp] theorem loadFrame_din (s : State) : (loadFrame s).din = s.din := by simp only [loadFrame, State.setTrunc]
@[simp] theorem loadFrame_buflen (s : State) :
    (loadFrame s).buflen = s.buflen := by simp only [loadFrame, State.setTrunc]
@[simp] theorem loadFrame_crcl (s : State) : (loadFrame s).crcl = s.crcl := by simp only [loadFrame, State.setTrunc]
@[simp] theorem loadFrame_crch (s : State) : (loadFrame s).crch = s.crch := by simp only [loadFrame, State.setTrunc]
@[simp] theorem loadFrame_c1 (s : State) : (loadFrame s).c1 = s.c1 := by simp only [loadFrame, State.setTrunc]
@[simp] theorem loadFrame_c2 (s : State) : (loadFrame s).c2 = s.c2 := by simp only [loadFrame, State.setTrunc]
@[simp] theorem loadFrame_ctrl0 (s : State) :
    (loadFrame s).ctrl0 = byteAt s.buf 0 := by simp only [loadFrame, State.setTrunc]
@[simp] theorem loadFrame_ctrl1 (s : State) :
    (loadFrame s).ctrl1 = byteAt s.buf 1 := by simp only [loadFrame, State.setTrunc]
@[simp] theorem loadFrame_dst (s : State) :
    (loadFrame s).dst =
      Vector.ofFn fun i : Fin 3 => byteAt s.buf (2 + i.val) := by simp only [loadFrame, State.setTrunc]
@[simp] theorem loadFrame_src (s : State) :
    (loadFrame s).src =
      Vector.ofFn fun i : Fin 3 => byteAt s.buf (5 + i.val) := by simp only [loadFrame, State.setTrunc]
@[simp] theorem loadFrame_opc (s : State) :
    (loadFrame s).opc = byteAt s.buf 8 := by simp only [loadFrame, State.setTrunc]
@[simp] theorem loadFrame_plen (s : State) :
    (loadFrame s).plen = BitVec.ofNat 8 (statedParams (byteAt s.buf 0)) := by simp only [loadFrame, State.setTrunc]
@[simp] theorem loadFrame_rcl (s : State) :
    (loadFrame s).rcl =
      bif modeOf (byteAt s.buf 0) then s.rcl else byteAt s.buf (9 + statedParams (byteAt s.buf 0)) := by
    simp only [loadFrame, State.setTrunc]
@[simp] theorem loadFrame_rch (s : State) :
    (loadFrame s).rch =
      bif modeOf (byteAt s.buf 0) then s.rch else byteAt s.buf ((9 + statedParams (byteAt s.buf 0)) + 1) := by
    simp only [loadFrame, State.setTrunc]
@[simp] theorem loadFrame_mac (s : State) :
    (loadFrame s).mac =
      Vector.ofFn fun i : Fin 6 => byteAt s.buf (((9 + statedParams (byteAt s.buf 0)) + rcFieldLen (modeOf (byteAt s.buf 0))) + i.val) := by
    simp only [loadFrame, State.setTrunc]
@[simp] theorem loadFrame_fcrcl (s : State) :
    (loadFrame s).fcrcl =
      byteAt s.buf (((9 + statedParams (byteAt s.buf 0)) + rcFieldLen (modeOf (byteAt s.buf 0))) + 6) := by
    simp only [loadFrame, State.setTrunc]
@[simp] theorem loadFrame_fcrch (s : State) :
    (loadFrame s).fcrch =
      byteAt s.buf (((9 + statedParams (byteAt s.buf 0)) + rcFieldLen (modeOf (byteAt s.buf 0))) + 7) := by
    simp only [loadFrame, State.setTrunc]
@[simp] theorem loadFrame_tlen (s : State) :
    (loadFrame s).tlen = BitVec.ofNat 8 (statedLength (byteAt s.buf 0)) := by simp only [loadFrame, State.setTrunc]
@[simp] theorem loadFrame_params (s : State) :
    (loadFrame s).params =
      patch s.params 0 ((s.buf.toList.drop 9).take (statedParams (byteAt s.buf 0))) := by
    simp only [loadFrame, State.setTrunc]
@[simp] theorem loadFrame_key (s : State) : (loadFrame s).key = s.key := by simp only [loadFrame, State.setTrunc]
@[simp] theorem loadFrame_ain (s : State) : (loadFrame s).ain = s.ain := by simp only [loadFrame, State.setTrunc]
@[simp] theorem loadFrame_aout (s : State) : (loadFrame s).aout = s.aout := by simp only [loadFrame, State.setTrunc]
@[simp] theorem loadFrame_chal (s : State) : (loadFrame s).chal = s.chal := by simp only [loadFrame, State.setTrunc]
@[simp] theorem loadFrame_macc (s : State) : (loadFrame s).macc = s.macc := by simp only [loadFrame, State.setTrunc]
@[simp] theorem loadFrame_node (s : State) : (loadFrame s).node = s.node := by simp only [loadFrame, State.setTrunc]
@[simp] theorem loadFrame_buf (s : State) : (loadFrame s).buf = s.buf := by simp only [loadFrame, State.setTrunc]
@[simp] theorem loadFrame_wkey (s : State) : (loadFrame s).wkey = s.wkey := by simp only [loadFrame, State.setTrunc]
@[simp] theorem loadFrame_pending (s : State) :
    (loadFrame s).pending = s.pending := by simp only [loadFrame, State.setTrunc]
@[simp] theorem loadFrame_observed (s : State) :
    (loadFrame s).observed = s.observed := by simp only [loadFrame, State.setTrunc]

/-! ### recomputing the CRC (45_frame_codec.md R157) -/

@[simp] theorem recomputeCrc_cmd (s : State) :
    (recomputeCrc s).cmd = s.cmd := by simp only [recomputeCrc, State.setCrc]
@[simp] theorem recomputeCrc_status (s : State) :
    (recomputeCrc s).status = s.status := by simp only [recomputeCrc, State.setCrc]
@[simp] theorem recomputeCrc_err (s : State) :
    (recomputeCrc s).err = s.err := by simp only [recomputeCrc, State.setCrc]
@[simp] theorem recomputeCrc_cfg (s : State) :
    (recomputeCrc s).cfg = s.cfg := by simp only [recomputeCrc, State.setCrc]
@[simp] theorem recomputeCrc_din (s : State) :
    (recomputeCrc s).din = s.din := by simp only [recomputeCrc, State.setCrc]
@[simp] theorem recomputeCrc_buflen (s : State) :
    (recomputeCrc s).buflen = s.buflen := by simp only [recomputeCrc, State.setCrc]
@[simp] theorem recomputeCrc_crcl (s : State) :
    (recomputeCrc s).crcl =
      loByte (crc16 (s.bufBytes (s.tlen.toNat - 2))) := by simp only [recomputeCrc, State.setCrc]
@[simp] theorem recomputeCrc_crch (s : State) :
    (recomputeCrc s).crch =
      hiByte (crc16 (s.bufBytes (s.tlen.toNat - 2))) := by simp only [recomputeCrc, State.setCrc]
@[simp] theorem recomputeCrc_c1 (s : State) : (recomputeCrc s).c1 = s.c1 := by simp only [recomputeCrc, State.setCrc]
@[simp] theorem recomputeCrc_c2 (s : State) : (recomputeCrc s).c2 = s.c2 := by simp only [recomputeCrc, State.setCrc]
@[simp] theorem recomputeCrc_ctrl0 (s : State) :
    (recomputeCrc s).ctrl0 = s.ctrl0 := by simp only [recomputeCrc, State.setCrc]
@[simp] theorem recomputeCrc_ctrl1 (s : State) :
    (recomputeCrc s).ctrl1 = s.ctrl1 := by simp only [recomputeCrc, State.setCrc]
@[simp] theorem recomputeCrc_dst (s : State) :
    (recomputeCrc s).dst = s.dst := by simp only [recomputeCrc, State.setCrc]
@[simp] theorem recomputeCrc_src (s : State) :
    (recomputeCrc s).src = s.src := by simp only [recomputeCrc, State.setCrc]
@[simp] theorem recomputeCrc_opc (s : State) :
    (recomputeCrc s).opc = s.opc := by simp only [recomputeCrc, State.setCrc]
@[simp] theorem recomputeCrc_plen (s : State) :
    (recomputeCrc s).plen = s.plen := by simp only [recomputeCrc, State.setCrc]
@[simp] theorem recomputeCrc_rcl (s : State) :
    (recomputeCrc s).rcl = s.rcl := by simp only [recomputeCrc, State.setCrc]
@[simp] theorem recomputeCrc_rch (s : State) :
    (recomputeCrc s).rch = s.rch := by simp only [recomputeCrc, State.setCrc]
@[simp] theorem recomputeCrc_mac (s : State) :
    (recomputeCrc s).mac = s.mac := by simp only [recomputeCrc, State.setCrc]
@[simp] theorem recomputeCrc_fcrcl (s : State) :
    (recomputeCrc s).fcrcl = s.fcrcl := by simp only [recomputeCrc, State.setCrc]
@[simp] theorem recomputeCrc_fcrch (s : State) :
    (recomputeCrc s).fcrch = s.fcrch := by simp only [recomputeCrc, State.setCrc]
@[simp] theorem recomputeCrc_tlen (s : State) :
    (recomputeCrc s).tlen = s.tlen := by simp only [recomputeCrc, State.setCrc]
@[simp] theorem recomputeCrc_params (s : State) :
    (recomputeCrc s).params = s.params := by simp only [recomputeCrc, State.setCrc]
@[simp] theorem recomputeCrc_key (s : State) :
    (recomputeCrc s).key = s.key := by simp only [recomputeCrc, State.setCrc]
@[simp] theorem recomputeCrc_ain (s : State) :
    (recomputeCrc s).ain = s.ain := by simp only [recomputeCrc, State.setCrc]
@[simp] theorem recomputeCrc_aout (s : State) :
    (recomputeCrc s).aout = s.aout := by simp only [recomputeCrc, State.setCrc]
@[simp] theorem recomputeCrc_chal (s : State) :
    (recomputeCrc s).chal = s.chal := by simp only [recomputeCrc, State.setCrc]
@[simp] theorem recomputeCrc_macc (s : State) :
    (recomputeCrc s).macc = s.macc := by simp only [recomputeCrc, State.setCrc]
@[simp] theorem recomputeCrc_node (s : State) :
    (recomputeCrc s).node = s.node := by simp only [recomputeCrc, State.setCrc]
@[simp] theorem recomputeCrc_buf (s : State) :
    (recomputeCrc s).buf = s.buf := by simp only [recomputeCrc, State.setCrc]
@[simp] theorem recomputeCrc_wkey (s : State) :
    (recomputeCrc s).wkey = s.wkey := by simp only [recomputeCrc, State.setCrc]
@[simp] theorem recomputeCrc_pending (s : State) :
    (recomputeCrc s).pending = s.pending := by simp only [recomputeCrc, State.setCrc]
@[simp] theorem recomputeCrc_observed (s : State) :
    (recomputeCrc s).observed = s.observed := by simp only [recomputeCrc, State.setCrc]

/-! ### accepting a frame (45_frame_codec.md R157) -/

@[simp] theorem accept_cmd (s : State) :
    (accept s).cmd = s.cmd := by simp only [accept, complete, State.setErr, State.setMatch]
@[simp] theorem accept_status (s : State) :
    (accept s).status = withBit s.status 1 true := by simp only [accept, complete, State.setErr, State.setMatch]
@[simp] theorem accept_err (s : State) :
    (accept s).err = 0x00 := by simp only [accept, complete, State.setErr, State.setMatch]
@[simp] theorem accept_cfg (s : State) :
    (accept s).cfg = s.cfg := by simp only [accept, complete, State.setErr, State.setMatch]
@[simp] theorem accept_din (s : State) :
    (accept s).din = s.din := by simp only [accept, complete, State.setErr, State.setMatch]
@[simp] theorem accept_buflen (s : State) :
    (accept s).buflen = s.buflen := by simp only [accept, complete, State.setErr, State.setMatch]
@[simp] theorem accept_crcl (s : State) :
    (accept s).crcl = s.crcl := by simp only [accept, complete, State.setErr, State.setMatch]
@[simp] theorem accept_crch (s : State) :
    (accept s).crch = s.crch := by simp only [accept, complete, State.setErr, State.setMatch]
@[simp] theorem accept_c1 (s : State) :
    (accept s).c1 = s.c1 := by simp only [accept, complete, State.setErr, State.setMatch]
@[simp] theorem accept_c2 (s : State) :
    (accept s).c2 = s.c2 := by simp only [accept, complete, State.setErr, State.setMatch]
@[simp] theorem accept_ctrl0 (s : State) :
    (accept s).ctrl0 = s.ctrl0 := by simp only [accept, complete, State.setErr, State.setMatch]
@[simp] theorem accept_ctrl1 (s : State) :
    (accept s).ctrl1 = s.ctrl1 := by simp only [accept, complete, State.setErr, State.setMatch]
@[simp] theorem accept_dst (s : State) :
    (accept s).dst = s.dst := by simp only [accept, complete, State.setErr, State.setMatch]
@[simp] theorem accept_src (s : State) :
    (accept s).src = s.src := by simp only [accept, complete, State.setErr, State.setMatch]
@[simp] theorem accept_opc (s : State) :
    (accept s).opc = s.opc := by simp only [accept, complete, State.setErr, State.setMatch]
@[simp] theorem accept_plen (s : State) :
    (accept s).plen = s.plen := by simp only [accept, complete, State.setErr, State.setMatch]
@[simp] theorem accept_rcl (s : State) :
    (accept s).rcl = s.rcl := by simp only [accept, complete, State.setErr, State.setMatch]
@[simp] theorem accept_rch (s : State) :
    (accept s).rch = s.rch := by simp only [accept, complete, State.setErr, State.setMatch]
@[simp] theorem accept_mac (s : State) :
    (accept s).mac = s.mac := by simp only [accept, complete, State.setErr, State.setMatch]
@[simp] theorem accept_fcrcl (s : State) :
    (accept s).fcrcl = s.fcrcl := by simp only [accept, complete, State.setErr, State.setMatch]
@[simp] theorem accept_fcrch (s : State) :
    (accept s).fcrch = s.fcrch := by simp only [accept, complete, State.setErr, State.setMatch]
@[simp] theorem accept_tlen (s : State) :
    (accept s).tlen = s.tlen := by simp only [accept, complete, State.setErr, State.setMatch]
@[simp] theorem accept_params (s : State) :
    (accept s).params = s.params := by simp only [accept, complete, State.setErr, State.setMatch]
@[simp] theorem accept_key (s : State) :
    (accept s).key = s.key := by simp only [accept, complete, State.setErr, State.setMatch]
@[simp] theorem accept_ain (s : State) :
    (accept s).ain = s.ain := by simp only [accept, complete, State.setErr, State.setMatch]
@[simp] theorem accept_aout (s : State) :
    (accept s).aout = s.aout := by simp only [accept, complete, State.setErr, State.setMatch]
@[simp] theorem accept_chal (s : State) :
    (accept s).chal = s.chal := by simp only [accept, complete, State.setErr, State.setMatch]
@[simp] theorem accept_macc (s : State) :
    (accept s).macc = s.macc := by simp only [accept, complete, State.setErr, State.setMatch]
@[simp] theorem accept_node (s : State) :
    (accept s).node = s.node := by simp only [accept, complete, State.setErr, State.setMatch]
@[simp] theorem accept_buf (s : State) :
    (accept s).buf = s.buf := by simp only [accept, complete, State.setErr, State.setMatch]
@[simp] theorem accept_wkey (s : State) :
    (accept s).wkey = s.wkey := by simp only [accept, complete, State.setErr, State.setMatch]
@[simp] theorem accept_pending (s : State) :
    (accept s).pending = s.pending := by simp only [accept, complete, State.setErr, State.setMatch]
@[simp] theorem accept_observed (s : State) :
    (accept s).observed = s.observed := by simp only [accept, complete, State.setErr, State.setMatch]

end Sys2Proof.Laws
end

