-- ==== Sys2Proof/Laws/Layout.lean ====
section
/-! SUPPORT. The bytes of a frame: where each field of a serialized frame stands, and what a parse reads there
(30_encoding.md R70). -/
namespace Sys2Proof.Laws

open Sys2Proof.Machine

/-! ### Lists -/

theorem toList_eq_three (v : Vector Byte 3) : v.toList = [v[0], v[1], v[2]] := by
  apply List.ext_getElem
  · simp
  · intro i h1 h2
    simp at h2
    interval_cases i <;> simp

theorem getD_append_add (a b : List Byte) (i n : Nat) (h : a.length = n) : (a ++ b).getD (n + i) 0 = b.getD i 0 := by
  subst h
  simp [List.getD, List.getElem?_append_right]

theorem getD_append_lt (a b : List Byte) (i : Nat) (h : i < a.length) : (a ++ b).getD i 0 = a.getD i 0 := by
  simp [List.getD, List.getElem?_append_left h]

/-! ### The body of a frame -/

/-- The nine bytes every frame begins with, up to the opcode. -/
def frameHead (s : State) : List Byte :=
  [s.ctrl0, s.ctrl1, s.dst[0], s.dst[1], s.dst[2], s.src[0], s.src[1], s.src[2], s.opc]

/-- The rolling-code field: two bytes in a 1W frame, none in a 2W frame. -/
def rollingBytes (m : Bool) (s : State) : List Byte := if m then [] else [s.rcl, s.rch]

theorem frameBody_eq (m : Bool) (p : Nat) (s : State) :
    frameBody m p s = frameHead s ++ (s.params.toList.take p ++ (rollingBytes m s ++ s.mac.toList)) := by
  simp [frameBody, frameHead, rollingBytes, toList_eq_three]

@[simp] theorem length_frameHead (s : State) : (frameHead s).length = 9 := rfl

@[simp] theorem length_rollingBytes (m : Bool) (s : State) : (rollingBytes m s).length = rollingLength m := by
  cases m <;> rfl

/-- A frame without its CRC has `15 + p + r` bytes (30_encoding.md R72). -/
theorem length_frameBody (m : Bool) (p : Nat) (s : State) (h : p ≤ 21) :
    (frameBody m p s).length = 15 + p + rollingLength m := by
  simp [frameBody_eq]
  omega

/-- Byte `i` of the buffer after serializing, inside the frame. -/
theorem byteAt_serialize (m : Bool) (p tl i : Nat) (s : State) (hp : p ≤ 21) (hl : 17 + p + rollingLength m ≤ 32)
    (hi : i < 17 + p + rollingLength m) :
    byteAt (serialize m p tl s).buf i = (frameBody m p s ++ le16 (crc16 (frameBody m p s))).getD i 0 := by
  have h : i < (frameBody m p s ++ le16 (crc16 (frameBody m p s))).length := by
    simp [length_frameBody m p s hp]
    omega
  rw [byteAt_of_lt _ _ (by omega)]
  simp only [serialize_buf]
  rw [patch_getElem_of_mem _ _ _ _ _ (by omega) (by simpa using h), List.getD_eq_getElem?_getD,
    List.getElem?_eq_getElem h]
  rfl

/-- The bytes behind the frame are kept (45_frame_codec.md R154). -/
theorem serialize_buf_rest (m : Bool) (p tl i : Nat) (s : State) (hp : p ≤ 21) (hi : i < 32)
    (h : 17 + p + rollingLength m ≤ i) : (serialize m p tl s).buf[i] = s.buf[i] := by
  simp only [serialize_buf]
  rw [patch_getElem_of_not_mem _ _ _ _ _ (by simp [length_frameBody m p s hp]; omega)]

/-- The frame without its CRC, in the buffer. -/
theorem take_serialize_buf (m : Bool) (p tl : Nat) (s : State) (hp : p ≤ 21) (hl : 17 + p + rollingLength m ≤ 32) :
    (serialize m p tl s).buf.toList.take (15 + p + rollingLength m) = frameBody m p s := by
  have hlen := length_frameBody m p s hp
  have h := take_patch s.buf 0 (frameBody m p s ++ le16 (crc16 (frameBody m p s))) (by simp [hlen]; omega)
  have h2 := congrArg (List.take (15 + p + rollingLength m)) h
  rw [List.take_take] at h2
  simp only [serialize_buf]
  rw [← hlen] at h2 ⊢
  simpa using h2

/-- After serializing, the field registers and the buffer agree, byte by byte (45_frame_codec.md R154). -/
theorem holdsFrame_serialize (m : Bool) (p : Nat) (s : State) (hs : s.plen.toNat = p) (hp : p ≤ 21)
    (hl : 17 + p + rollingLength m ≤ 32) : (serialize m p (totalLength m p) s).HoldsFrame m p := by
  have hb := fun i => byteAt_serialize m p (totalLength m p) i s hp hl
  have hlen := length_frameBody m p s hp
  have hpar : (s.params.toList.take p).length = p := by simp; omega
  have hr := rollingLength_le m
  have h9 : ∀ i, i < 6 + p + rollingLength m →
      byteAt (serialize m p (totalLength m p) s).buf (9 + i) =
        (s.params.toList.take p ++ (rollingBytes m s ++ s.mac.toList)).getD i 0 := by
    intro i hi
    rw [hb _ (by omega), getD_append_lt _ _ _ (by omega), frameBody_eq, getD_append_add _ _ _ 9 rfl]
  have h0 : ∀ i, i < 9 → byteAt (serialize m p (totalLength m p) s).buf i = (frameHead s).getD i 0 := by
    intro i hi
    rw [hb _ (by omega), getD_append_lt _ _ _ (by omega), frameBody_eq, getD_append_lt _ _ _ hi]
  have hc : ∀ i, i < 2 → byteAt (serialize m p (totalLength m p) s).buf (15 + p + rollingLength m + i) =
      (le16 (crc16 (frameBody m p s))).getD i 0 := by
    intro i hi
    rw [hb _ (by omega), getD_append_add _ _ _ _ hlen]
  constructor
  · exact h0 0 (by omega)
  · exact h0 1 (by omega)
  · intro i
    rw [h0 _ (by omega)]
    fin_cases i <;> rfl
  · intro i
    rw [h0 _ (by omega)]
    fin_cases i <;> rfl
  · exact h0 8 (by omega)
  · exact hs
  · intro i hi
    rw [h9 _ (by omega), getD_append_lt _ _ _ (by omega)]
    simp [List.getD, hi]
  · rintro rfl
    have hr2 : rollingLength false = 2 := rfl
    constructor
    · rw [h9 _ (by omega)]
      exact getD_append_add _ _ 0 p hpar
    · rw [show 10 + p = 9 + (p + 1) by omega, h9 _ (by omega)]
      exact getD_append_add _ _ 1 p hpar
  · intro j
    rw [show 9 + p + rollingLength m + j = 9 + (p + (rollingLength m + j)) by omega, h9 _ (by omega),
      getD_append_add _ _ _ _ hpar, getD_append_add _ _ _ _ (by simp)]
    simp [List.getD]
  · rw [show 15 + p + rollingLength m = 15 + p + rollingLength m + 0 by omega, hc 0 (by omega), serialize_fcrcl]
    simp [le16]
  · rw [show 16 + p + rollingLength m = 15 + p + rollingLength m + 1 by omega, hc 1 (by omega), serialize_fcrch]
    simp [le16]
  · simp [totalLength_eq]
    omega

/-- Where the field registers and the buffer agree, serializing the registers gives the buffer's bytes. -/
theorem frameBody_of_holdsFrame {m : Bool} {p : Nat} {t : State} (h : t.HoldsFrame m p) (hp : p ≤ 21)
    (hl : 17 + p + rollingLength m ≤ 32) : frameBody m p t = t.buf.toList.take (15 + p + rollingLength m) := by
  have hlen := length_frameBody m p t hp
  have hpar : (t.params.toList.take p).length = p := by simp; omega
  have hr := rollingLength_le m
  have get : ∀ (l : List Byte) (i : Nat) (hi : i < l.length), l[i] = l.getD i 0 := by
    intro l i hi
    rw [List.getD_eq_getElem?_getD, List.getElem?_eq_getElem hi]
    rfl
  apply List.ext_getElem
  · simp [hlen]
    omega
  · intro i h1 h2
    rw [hlen] at h1
    rw [List.getElem_take, Vector.getElem_toList, ← byteAt_of_lt t.buf i (by omega), get]
    by_cases h9 : i < 9
    · rw [frameBody_eq, getD_append_lt _ _ _ h9]
      interval_cases i
      · exact h.ctrl0.symm
      · exact h.ctrl1.symm
      · exact (h.dst 0).symm
      · exact (h.dst 1).symm
      · exact (h.dst 2).symm
      · exact (h.src 0).symm
      · exact (h.src 1).symm
      · exact (h.src 2).symm
      · exact h.opc.symm
    · obtain ⟨k, rfl⟩ : ∃ k, i = 9 + k := ⟨i - 9, by omega⟩
      rw [frameBody_eq, getD_append_add _ _ _ 9 rfl]
      by_cases hk : k < p
      · rw [getD_append_lt _ _ _ (by omega), h.params ⟨k, by omega⟩ hk]
        simp [List.getD, hk, show k < 21 by omega]
      · obtain ⟨j, rfl⟩ : ∃ j, k = p + j := ⟨k - p, by omega⟩
        rw [getD_append_add _ _ _ _ hpar]
        by_cases hj : j < rollingLength m
        · rw [getD_append_lt _ _ _ (by simpa using hj)]
          cases m with
          | true => exact absurd hj (by simp [rollingLength])
          | false =>
            have hj2 : j < 2 := hj
            interval_cases j
            · exact (h.rc rfl).1.symm
            · rw [show 9 + (p + 1) = 10 + p by omega]
              exact (h.rc rfl).2.symm
        · obtain ⟨n, rfl⟩ : ∃ n, j = rollingLength m + n := ⟨j - rollingLength m, by omega⟩
          have hn : n < 6 := by omega
          rw [getD_append_add _ _ _ _ (by simp),
            show 9 + (p + (rollingLength m + n)) = 9 + p + rollingLength m + n by omega]
          have hm := h.mac ⟨n, hn⟩
          simp only at hm
          rw [hm]
          simp [List.getD, hn]

/-! ### What a parse reads -/

/-- After a parse that finds no error, the field registers and the buffer agree, byte by byte (45_frame_codec.md
R155). -/
theorem holdsFrame_loadFrame (s : State) (h : parseError s = none) :
    (loadFrame s).HoldsFrame (modeOf (byteAt s.buf 0)) (statedParams (byteAt s.buf 0)) := by
  have hp : 17 + rollingLength (modeOf (byteAt s.buf 0)) ≤ statedLength (byteAt s.buf 0) ∧
      statedLength (byteAt s.buf 0) ≤ 32 := by
    rcases parseError_cases s with h' | h' | h' | h' | h' <;> simp_all
  have he := statedLength_eq (byteAt s.buf 0)
  have hq := statedParams_eq (byteAt s.buf 0)
  constructor
  · simp
  · simp
  · intro i
    simp
  · intro i
    simp
  · simp
  · simp only [loadFrame_plen, BitVec.toNat_ofNat]
    omega
  · intro i hi
    have h9 : 9 + i.val < 32 := by omega
    show _ = (loadFrame s).params[i.val]
    simp only [loadFrame_params, loadFrame_buf]
    rw [patch_getElem_of_mem _ _ _ _ _ (by omega) (by simp; omega), byteAt_of_lt _ _ h9]
    simp
  · intro hm
    rw [hm] at hq
    simp [hm, show 10 + statedParams (byteAt s.buf 0) = 9 + statedParams (byteAt s.buf 0) + 1 by omega]
  · intro j
    simp [rcFieldLen_eq]
  · simp only [loadFrame_fcrcl, loadFrame_buf, rcFieldLen_eq]
    congr 1
    omega
  · simp only [loadFrame_fcrch, loadFrame_buf, rcFieldLen_eq]
    congr 1
    omega
  · simp only [loadFrame_tlen, BitVec.toNat_ofNat]
    omega

/-- A parse leaves the parameters beyond the frame's (45_frame_codec.md R155). -/
theorem loadFrame_params_rest (s : State) (i : Nat) (hi : i < 21) (h : statedParams (byteAt s.buf 0) ≤ i) :
    (loadFrame s).params[i] = s.params[i] := by
  simp only [loadFrame_params]
  rw [patch_getElem_of_not_mem _ _ _ _ _ (by simp; omega)]

/-- A buffer that agrees with the field registers parses, and the parse changes no register but `STATUS`. -/
theorem loadFrame_of_holdsFrame {m : Bool} {p : Nat} {t : State} (h : t.HoldsFrame m p)
    (hm : modeOf t.ctrl0 = m) (hs : statedLength t.ctrl0 = 17 + p + rollingLength m)
    (hl : 17 + p + rollingLength m ≤ 32) (hb : t.tlen.toNat ≤ t.buflen.toNat) :
    parseError t = none ∧ ∀ r, r ≠ .status → (loadFrame t).get r = t.get r := by
  have h0 := h.ctrl0
  have ht := h.tlen
  have hplen := h.plen
  have hq : statedParams t.ctrl0 = p := by
    unfold statedParams
    rw [hs, hm, totalLength_eq]
    omega
  constructor
  · have hc := parseError_cases t
    rw [h0, hm, hs] at hc
    rcases hc with a | a | a | a | a
    · omega
    · omega
    · omega
    · omega
    · exact a.2.2.2.2
  · intro r hr
    cases r <;> simp only [State.get, loadFrame_cmd, loadFrame_err, loadFrame_cfg, loadFrame_din, loadFrame_buflen,
      loadFrame_crcl, loadFrame_crch, loadFrame_c1, loadFrame_c2, loadFrame_key, loadFrame_ain, loadFrame_aout,
      loadFrame_chal, loadFrame_macc, loadFrame_node, loadFrame_buf, loadFrame_wkey]
    case status => exact absurd rfl hr
    case ctrl0 => exact h0
    case ctrl1 => exact h.ctrl1
    case dst i => simpa using h.dst i
    case src i => simpa using h.src i
    case opc => exact h.opc
    case plen =>
      apply BitVec.eq_of_toNat_eq
      rw [loadFrame_plen, h0, hq, BitVec.toNat_ofNat, hplen]
      omega
    case rcl =>
      rw [loadFrame_rcl, h0, hm, hq]
      cases m with
      | true => rfl
      | false => exact (h.rc rfl).1
    case rch =>
      rw [loadFrame_rch, h0, hm, hq]
      cases m with
      | true => rfl
      | false =>
        rw [show 9 + p + 1 = 10 + p by omega]
        exact (h.rc rfl).2
    case mac i =>
      have hi := h.mac i
      simp only [loadFrame_mac, h0, hq, hm, rcFieldLen_eq]
      simpa using hi
    case fcrcl =>
      rw [loadFrame_fcrcl, h0, hq, hm, rcFieldLen_eq, show 9 + p + rollingLength m + 6 = 15 + p + rollingLength m by omega]
      exact h.fcrcl
    case fcrch =>
      rw [loadFrame_fcrch, h0, hq, hm, rcFieldLen_eq, show 9 + p + rollingLength m + 7 = 16 + p + rollingLength m by omega]
      exact h.fcrch
    case tlen =>
      apply BitVec.eq_of_toNat_eq
      rw [loadFrame_tlen, h0, hs, BitVec.toNat_ofNat, ht]
      omega
    case params i =>
      show (loadFrame t).params[i.val] = t.params[i.val]
      simp only [loadFrame_params, h0, hq]
      by_cases hi : i.val < p
      · have hpi := h.params i hi
        rw [patch_getElem_of_mem _ _ _ _ _ (by omega) (by simp; omega)]
        rw [byteAt_of_lt _ _ (by omega)] at hpi
        simpa using hpi
      · rw [patch_getElem_of_not_mem _ _ _ _ _ (by simp; omega)]

end Sys2Proof.Laws
end

