-- ==== Sys2Proof/Laws/Mac.lean ====
section
/-! SUPPORT. The IV element by element, the truncation, the comparison, and the MAC and key-wrap commands case by
case. -/
namespace Sys2Proof.Laws

open Sys2Proof.Machine

/-! ### The IV (43_iv_builder.md R135) -/

/-- Every element of the IV. -/
theorem iv_getElem (m : Bool) (payload : List Byte) (rc : Half) (chal : Vector Byte 6) (i : Nat) (h : i < 16) :
    (iv m payload rc chal)[i] =
      if i < 8 then payload.getD i ivPad
      else if i = 8 then (ivck payload).1
      else if i = 9 then (ivck payload).2
      else if m then byteAt chal (i - 10)
      else if i = 10 then loByte rc
      else if i = 11 then hiByte rc
      else ivPad := by
  simp [iv]

/-- A payload byte behind the opcode is a parameter. -/
theorem payload_getD_succ (s : State) (i : Nat) (h1 : i < s.plen.toNat) (h2 : i < 21) :
    s.payload.getD (i + 1) ivPad = byteAt s.params i := by
  have h : i < (s.params.toList.take s.plen.toNat).length := by simp; omega
  simp [State.payload, State.paramBytes, byteAt, List.getD, h1, h2]

/-- Behind the payload there is padding. -/
theorem payload_getD_of_le (s : State) (i : Nat) (h : s.plen.toNat < i) : s.payload.getD i ivPad = ivPad := by
  have hl : s.payload.length ≤ i := by simp [State.payload, State.paramBytes]; omega
  simp [List.getD, List.getElem?_eq_none hl]

/-- What `iv` builds from the registers is their IV, element by element. -/
theorem isIvOf_iv (m : Bool) (s : State) : IsIvOf m s (iv m s.payload s.rc s.chal) where
  opcode := by simp [iv_getElem, State.payload]
  params := by
    rintro ⟨i, hi⟩ h1 h2
    rcases i with _ | i
    · simp at h1
    · show (iv m s.payload s.rc s.chal)[i + 1] = _
      rw [iv_getElem, if_pos hi, payload_getD_succ s i (by simpa using h2) (by omega)]
      rfl
  padding := by
    rintro ⟨i, hi⟩ h
    show (iv m s.payload s.rc s.chal)[i] = _
    rw [iv_getElem, if_pos hi, payload_getD_of_le s i h]
    rfl
  checksum := by simp [iv_getElem, State.payload, State.paramBytes]
  rollingCode h := by simp [iv_getElem, h, State.rc]
  tail h i := by
    rw [iv_getElem, if_neg (by omega), if_neg (by omega), if_neg (by omega), if_neg (by simp [h]), if_neg (by omega),
      if_neg (by omega)]
    rfl
  challenge h j := by
    rw [iv_getElem, if_neg (by omega), if_neg (by omega), if_neg (by omega), if_pos h, Nat.add_sub_cancel_left,
      byteAt_of_lt _ _ j.isLt]
    rfl

/-- A state has one IV. -/
theorem isIvOf_unique {m : Bool} {s : State} {a b : Vector Byte 16} (ha : IsIvOf m s a) (hb : IsIvOf m s b) :
    a = b := by
  have hc : a[8] = b[8] ∧ a[9] = b[9] := by simpa using ha.checksum.trans hb.checksum.symm
  apply Vector.ext
  intro i hi
  by_cases h8 : i < 8
  · by_cases h0 : i = 0
    · subst h0
      rw [ha.opcode, hb.opcode]
    · by_cases hp : i ≤ s.plen.toNat
      · exact (ha.params ⟨i, h8⟩ (by simp; omega) hp).trans (hb.params ⟨i, h8⟩ (by simp; omega) hp).symm
      · exact (ha.padding ⟨i, h8⟩ (by simp; omega)).trans (hb.padding ⟨i, h8⟩ (by simp; omega)).symm
  · by_cases h10 : i < 10
    · obtain rfl | rfl : i = 8 ∨ i = 9 := by omega
      · exact hc.1
      · exact hc.2
    · cases m with
      | true =>
        have e := (ha.challenge rfl ⟨i - 10, by omega⟩).trans (hb.challenge rfl ⟨i - 10, by omega⟩).symm
        simpa [show 10 + (i - 10) = i by omega] using e
      | false =>
        by_cases h12 : i < 12
        · obtain rfl | rfl : i = 10 ∨ i = 11 := by omega
          · exact (ha.rollingCode rfl).1.trans (hb.rollingCode rfl).1.symm
          · exact (ha.rollingCode rfl).2.trans (hb.rollingCode rfl).2.symm
        · have e := (ha.tail rfl ⟨i - 12, by omega⟩).trans (hb.tail rfl ⟨i - 12, by omega⟩).symm
          simpa [show 12 + (i - 12) = i by omega] using e

/-! ### Truncation and comparison (44_mac_keywrap.md R140, R142) -/

theorem macOf_getElem (block : Vector Byte 16) (j : Nat) (h : j < 6) : (macOf block)[j] = block[j] := by
  simp [macOf, byteAt_of_lt block j (by omega)]

/-- A block's MAC is its own six bytes. -/
theorem ctEq6_self (a : Vector Byte 6) : ctEq6 a a = true := by
  simp [ctEq6, List.finRange]

/-! ### The commands, case by case -/

theorem ivBuild_of_error {s : State} {k : ErrorKind} (h : ivError s = some k) : ivBuild s = raise k s := by
  simp [ivBuild, h]

theorem ivBuild_of_none {s : State} (h : ivError s = none) : ivBuild s = completePlain (ivStage s.cfgMode s) := by
  simp [ivBuild, h]

theorem macGen_of_error {s : State} {k : ErrorKind} (h : ivError s = some k) : macGen s = raise k s := by
  simp [macGen, h]

theorem macGen_of_none {s : State} (h : ivError s = none) : macGen s = completePlain (macStage s.cfgMode s) := by
  simp [macGen, h]

theorem macVfy_of_error {s : State} {k : ErrorKind} (h : ivError s = some k) : macVfy s = raise k s := by
  simp [macVfy, h]

theorem macVfy_of_none {s : State} (h : ivError s = none) :
    macVfy s = complete (((macStage s.cfgMode s).setMatch
      (ctEq6 (macStage s.cfgMode s).macc (macStage s.cfgMode s).mac)).setTrunc false) := by
  simp [macVfy, h]

theorem kw2W_of_chalv {s : State} (h : s.cfgChalv = true) :
    kw2W s = completePlain (wrapStage (kwIv2W s.chal) s) := by
  simp [kw2W, h]

theorem kw2W_of_not_chalv {s : State} (h : s.cfgChalv = false) : kw2W s = raise .challengeRequired s := by
  simp [kw2W, h]

end Sys2Proof.Laws
end

