-- ==== Sys2Proof/Laws/PerInstr.lean ====
section
/-! SUPPORT. Statements made of every instruction, one lemma per constructor. -/
namespace Sys2Proof.Laws

/-- The bits the row of spec/opcode_table.json fixes, and their values: all seventeen for a command (30_encoding.md R62),
bit 16 for a host transaction (R60). -/
def tableRow (i : Instr) : Nat × Nat :=
  match i with
  | .cfgInit => (0x1FFFF, 0x10080)
  | .crcInit => (0x1FFFF, 0x10090)
  | .crcUpd => (0x1FFFF, 0x10091)
  | .crcBuf => (0x1FFFF, 0x10092)
  | .crcVfy => (0x1FFFF, 0x10093)
  | .crcApp => (0x1FFFF, 0x10094)
  | .ivcInit => (0x1FFFF, 0x100A0)
  | .ivcUpd => (0x1FFFF, 0x100A1)
  | .aesEnc => (0x1FFFF, 0x100B0)
  | .ivBuild => (0x1FFFF, 0x100C0)
  | .macGen => (0x1FFFF, 0x100D0)
  | .macVfy => (0x1FFFF, 0x100D1)
  | .kw1W => (0x1FFFF, 0x100E0)
  | .kw2W => (0x1FFFF, 0x100E1)
  | .frmBuild => (0x1FFFF, 0x100F0)
  | .frmSer => (0x1FFFF, 0x100F1)
  | .frmParse => (0x1FFFF, 0x100F2)
  | .frmValid => (0x1FFFF, 0x100F3)
  | .wr _ _ => (0x10000, 0x10000)
  | .rd _ _ => (0x10000, 0x00000)

/-- The word of the instruction has the bits its row of the opcode table fixes. -/
def EncodesRow.Statement (i : Instr) : Prop := (encode i).toNat &&& (tableRow i).1 = (tableRow i).2

theorem EncodesRow.cfgInit : EncodesRow.Statement .cfgInit := by unfold EncodesRow.Statement; decide

theorem EncodesRow.crcInit : EncodesRow.Statement .crcInit := by unfold EncodesRow.Statement; decide

theorem EncodesRow.crcUpd : EncodesRow.Statement .crcUpd := by unfold EncodesRow.Statement; decide

theorem EncodesRow.crcBuf : EncodesRow.Statement .crcBuf := by unfold EncodesRow.Statement; decide

theorem EncodesRow.crcVfy : EncodesRow.Statement .crcVfy := by unfold EncodesRow.Statement; decide

theorem EncodesRow.crcApp : EncodesRow.Statement .crcApp := by unfold EncodesRow.Statement; decide

theorem EncodesRow.ivcInit : EncodesRow.Statement .ivcInit := by unfold EncodesRow.Statement; decide

theorem EncodesRow.ivcUpd : EncodesRow.Statement .ivcUpd := by unfold EncodesRow.Statement; decide

theorem EncodesRow.aesEnc : EncodesRow.Statement .aesEnc := by unfold EncodesRow.Statement; decide

theorem EncodesRow.ivBuild : EncodesRow.Statement .ivBuild := by unfold EncodesRow.Statement; decide

theorem EncodesRow.macGen : EncodesRow.Statement .macGen := by unfold EncodesRow.Statement; decide

theorem EncodesRow.macVfy : EncodesRow.Statement .macVfy := by unfold EncodesRow.Statement; decide

theorem EncodesRow.kw1W : EncodesRow.Statement .kw1W := by unfold EncodesRow.Statement; decide

theorem EncodesRow.kw2W : EncodesRow.Statement .kw2W := by unfold EncodesRow.Statement; decide

theorem EncodesRow.frmBuild : EncodesRow.Statement .frmBuild := by unfold EncodesRow.Statement; decide

theorem EncodesRow.frmSer : EncodesRow.Statement .frmSer := by unfold EncodesRow.Statement; decide

theorem EncodesRow.frmParse : EncodesRow.Statement .frmParse := by unfold EncodesRow.Statement; decide

theorem EncodesRow.frmValid : EncodesRow.Statement .frmValid := by unfold EncodesRow.Statement; decide

/-- Bit 16 of a word made of fields is its `W` field. -/
theorem makeWord_and_bit16 (w : Bool) (a d : Byte) : makeWord w a d &&& 0x10000 = (BitVec.ofBool w).setWidth 17 <<< 16 := by
  apply BitVec.eq_of_getLsbD_eq
  intro k hk
  interval_cases k <;> simp [makeWord]

theorem EncodesRow.wr (addr data : Byte) : EncodesRow.Statement (.wr addr data) := by
  have h := congrArg BitVec.toNat (makeWord_and_bit16 true addr data)
  rw [BitVec.toNat_and] at h
  exact h

theorem EncodesRow.rd (addr ignored : Byte) : EncodesRow.Statement (.rd addr ignored) := by
  have h := congrArg BitVec.toNat (makeWord_and_bit16 false addr ignored)
  rw [BitVec.toNat_and] at h
  exact h

end Sys2Proof.Laws
end

