-- ==== Sys2Proof/Laws/Words.lean ====
section
/-! SUPPORT. The fields of a transaction word, and the command table. -/
namespace Sys2Proof.Laws

@[simp] theorem wordIsWrite_makeWord (w : Bool) (a d : Byte) : wordIsWrite (makeWord w a d) = w := by
  simp [wordIsWrite, makeWord]

@[simp] theorem wordAddr_makeWord (w : Bool) (a d : Byte) : wordAddr (makeWord w a d) = a := by
  apply BitVec.eq_of_getLsbD_eq
  intro k hk
  have h1 : 8 + k < 17 := by omega
  have h2 : 8 + k < 16 := by omega
  simp [wordAddr, makeWord, hk, h1, h2]

@[simp] theorem wordData_makeWord (w : Bool) (a d : Byte) : wordData (makeWord w a d) = d := by
  apply BitVec.eq_of_getLsbD_eq
  intro k hk
  have h1 : k < 17 := by omega
  have h2 : k < 16 := by omega
  simp [wordData, makeWord, hk, h1, h2]

/-- A word is made of its three fields (30_encoding.md R60). -/
theorem makeWord_fields (w : HostWord) : makeWord (wordIsWrite w) (wordAddr w) (wordData w) = w := by
  apply BitVec.eq_of_getLsbD_eq
  intro k hk
  interval_cases k <;> simp [makeWord, wordIsWrite, wordAddr, wordData]

/-- A row of the command table is a well-formed command whose word issues its code (30_encoding.md R61, R62). -/
theorem commandOf_some (c : Byte) (i : Instr) (h : commandOf c = some i) : i.wf = true ∧ encode i = commandWord c := by
  have hall : ∀ c : Byte, (match commandOf c with
      | some i => i.wf && (encode i == commandWord c)
      | none => true) = true := by decide +kernel
  have hc := hall c
  rw [h] at hc
  simpa using hc

/-- A command selects neither a write nor a read. -/
theorem commandOf_ne_host (c : Byte) (a d : Byte) : commandOf c ≠ some (.wr a d) ∧ commandOf c ≠ some (.rd a d) := by
  have hall : ∀ c : Byte, (match commandOf c with
      | some (.wr _ _) => false
      | some (.rd _ _) => false
      | _ => true) = true := by decide +kernel
  have hc := hall c
  constructor <;> intro h <;> rw [h] at hc <;> cases hc

/-- A number below `2^17` is a transaction word. -/
theorem decodeNumber_of_lt {n : Nat} (h : n < 2 ^ 17) : decodeNumber n = .ok (decode (BitVec.ofNat 17 n)) := if_pos h

/-- No other number is one: it is rejected by name. -/
theorem decodeNumber_of_ge {n : Nat} (h : 2 ^ 17 ≤ n) : decodeNumber n = .error .wordTooWide := if_neg (by omega)

end Sys2Proof.Laws
end

