-- ==== Sys2Proof/Tests/Slice0.lean ====
section
/-! SUPPORT. Tests on fixed values, their expected results taken from the spec, and for each statement with hypotheses
or clauses concrete values that meet them. -/
namespace Sys2Proof.Tests

-- One test after the other: concurrent kernel evaluations would each hold a thread and its stack.
set_option Elab.async false

open Sys2Proof.Machine

/-! ### Helpers -/

/-- The next state, where there is one. -/
def after (i : Instr) (s : State) : Option State :=
  match exec i s with
  | .next t => some t
  | .fault _ => none
  | .refused _ => none

/-- The state after one step, where there is one. -/
def stepped (s : State) : Option State :=
  match step s with
  | .next t => some t
  | .fault _ => none
  | .refused _ => none

/-- A buffer that begins with the given bytes. -/
def bufOf (bytes : List Byte) : Vector Byte 32 := patch (Vector.replicate 32 0) 0 bytes

/-- An armed block, everything else zero. -/
def armed : State := { State.zero with status := 0x01 }

/-- The nine ASCII bytes of the CRC check value (40_crc.md R101). -/
def nine : List Byte := [0x31, 0x32, 0x33, 0x34, 0x35, 0x36, 0x37, 0x38, 0x39]

/-- The 1W frame of 45_frame_codec.md R150 and R155. -/
def frame21 : List Byte :=
  [0x0A, 0x00, 0x11, 0x22, 0x33, 0xAA, 0xBB, 0xCC, 0x60, 0x32, 0x00, 0x01, 0x00, 0x92, 0x98, 0x58, 0x63, 0xCD, 0xAD,
    0x81, 0x54]

/-- The fields of the build example of R150: `CFG = 0x02`, `KEY` all zero, 1W, opcode `0x60`, parameters `32 00`,
rolling code 1. -/
def toBuild : State :=
  { armed with
    cfg := 0x02, dst := #v[0x11, 0x22, 0x33], src := #v[0xAA, 0xBB, 0xCC], opc := 0x60, plen := 2,
    params := patch (Vector.replicate 21 0) 0 [0x32, 0x00], rcl := 0x01 }

/-- An armed block with a buffer of the given bytes. -/
def holding (bytes : List Byte) : State := { armed with buf := bufOf bytes, buflen := BitVec.ofNat 8 bytes.length }

/-- A 2W frame without parameters: ctrl0 `0x26`, opcode `0x3D`, zero addresses, zero MAC, and its CRC. -/
def frame2W : List Byte :=
  let body : List Byte := [0x26, 0x00, 0, 0, 0, 0, 0, 0, 0x3D, 0, 0, 0, 0, 0, 0]
  body ++ le16 (crc16 body)

/-! ### Well-formedness: the one check, and a term it refuses -/

theorem test_wf_refuses_assigned_code_as_write : ¬ (Instr.wr 0x00 0x80).WellFormed := by decide
theorem test_wf_refuses_last_code_as_write : ¬ (Instr.wr 0x00 0xF3).WellFormed := by decide
theorem test_wf_accepts_illegal_code : (Instr.wr 0x00 0x81).WellFormed := by decide
theorem test_wf_accepts_plain_write : (Instr.wr 0x03 0x80).WellFormed := by decide
theorem test_wf_accepts_read_of_cmd : (Instr.rd 0x00 0x80).WellFormed := by decide
theorem test_wf_accepts_command : Instr.frmValid.WellFormed := by decide

/-! ### Decoding: the word of every row, bit by bit from 30_encoding.md R60 and R62 (`W`, `addr`, `data`) -/

theorem test_decode_cfgInit : decode 0b10000000010000000 = .cfgInit := by decide
theorem test_decode_crcInit : decode 0b10000000010010000 = .crcInit := by decide
theorem test_decode_crcUpd : decode 0b10000000010010001 = .crcUpd := by decide
theorem test_decode_crcBuf : decode 0b10000000010010010 = .crcBuf := by decide
theorem test_decode_crcVfy : decode 0b10000000010010011 = .crcVfy := by decide
theorem test_decode_crcApp : decode 0b10000000010010100 = .crcApp := by decide
theorem test_decode_ivcInit : decode 0b10000000010100000 = .ivcInit := by decide
theorem test_decode_ivcUpd : decode 0b10000000010100001 = .ivcUpd := by decide
theorem test_decode_aesEnc : decode 0b10000000010110000 = .aesEnc := by decide
theorem test_decode_ivBuild : decode 0b10000000011000000 = .ivBuild := by decide
theorem test_decode_macGen : decode 0b10000000011010000 = .macGen := by decide
theorem test_decode_macVfy : decode 0b10000000011010001 = .macVfy := by decide
theorem test_decode_kw1W : decode 0b10000000011100000 = .kw1W := by decide
theorem test_decode_kw2W : decode 0b10000000011100001 = .kw2W := by decide
theorem test_decode_frmBuild : decode 0b10000000011110000 = .frmBuild := by decide
theorem test_decode_frmSer : decode 0b10000000011110001 = .frmSer := by decide
theorem test_decode_frmParse : decode 0b10000000011110010 = .frmParse := by decide
theorem test_decode_frmValid : decode 0b10000000011110011 = .frmValid := by decide
theorem test_decode_wr : decode 0b10100001101011010 = .wr 0x43 0x5A := by decide
theorem test_decode_rd : decode 0b00000001000000000 = .rd 0x02 0x00 := by decide
theorem test_decode_illegal_command : decode 0b10000000010010101 = .wr 0x00 0x95 := by decide
theorem test_decode_read_of_cmd : decode 0b00000000010000000 = .rd 0x00 0x80 := by decide
theorem test_decode_write_elsewhere : decode 0b10000000110000000 = .wr 0x01 0x80 := by decide

theorem test_word_too_wide : (match decodeNumber 0x20000 with
    | .error .wordTooWide => true
    | .ok _ => false) = true := by decide
theorem test_table_word : decodeTableWord 24 0x100F0 = some .frmBuild := by decide
theorem test_table_word_too_wide : decodeTableWord 24 0x2435A = none := by decide

/-- 46_config_host.md R171's own example of an encoding. -/
theorem test_encode_wr : encode (.wr 0x43 0x5A) = 0x1435A := by decide

/-! ### Steps -/

/-- 46_config_host.md R170: after reset, `cmd CFG.INIT` gives `ERR = 0x00`, `STATUS = 0x01`. -/
theorem test_step_runs_fetched_word :
    (stepped (State.reset.withFetchWord 24 0x10080)).map (fun t => (t.cmd, t.status, t.err, t.pending)) =
      some (0x80, 0x01, 0x00, []) := by decide

/-- 46_config_host.md R170: after reset, `cmd FRM.PARSE` gives `ERR = 0x09`, `STATUS = 0x00`. -/
theorem test_step_not_initialized :
    (stepped (State.reset.withFetchWord 24 0x100F2)).map (fun t => (t.status, t.err)) = some (0x00, 0x09) := by decide

theorem test_step_idles_when_nothing_is_pending : stepped armed = some armed := by decide

/-- 30_encoding.md R68: `wr16 RCL, 0x1234`. -/
theorem test_asm_wr16 : asmWr16 0x14 0x1234 = [0x11434, 0x11512] := by decide

/-! ### Instructions, one step each -/

/-- R170. -/
theorem test_cfgInit : (after .cfgInit { State.zero with status := 0x06, err := 0x0B }).map
    (fun t => (t.status, t.err, t.cmd)) = some (0x01, 0x00, 0x80) := by decide

/-- R102. -/
theorem test_crcInit : (after .crcInit { State.zero with crcl := 0x34, crch := 0x12 }).map
    (fun t => (t.crcl, t.crch, t.err)) = some (0x00, 0x00, 0x00) := by decide

/-- R103. -/
theorem test_crcUpd : (after .crcUpd { State.zero with din := 0x01 }).map (fun t => (t.crcl, t.crch)) =
    some (0x89, 0x11) := by decide

/-- R104. -/
theorem test_crcBuf : (after .crcBuf { holding nine with crcl := 0xFF }).map (fun t => t.crc) = some 0x2189 := by
  decide +kernel

/-- R105, both examples. -/
theorem test_crcVfy_match : (after .crcVfy (holding (nine ++ [0x89, 0x21]))).map
    (fun t => (t.status, t.err, t.crc)) = some (0x03, 0x00, 0x2189) := by decide +kernel
theorem test_crcVfy_mismatch : (after .crcVfy (holding (nine ++ [0x21, 0x89]))).map
    (fun t => (t.status, t.err, t.crc)) = some (0x01, 0x00, 0x2189) := by decide +kernel

/-- R106. -/
theorem test_crcApp : (after .crcApp (holding nine)).map
    (fun t => (t.buf[9], t.buf[10], t.buflen, t.crc)) = some (0x89, 0x21, 11, 0x2189) := by decide +kernel
theorem test_crcApp_no_room : (after .crcApp { armed with buflen := 31 }).map (fun t => (t.err, t.buflen)) =
    some (0x0A, 31) := by decide +kernel

/-- R112. -/
theorem test_ivcInit : (after .ivcInit { State.zero with c1 := 0x12, c2 := 0x34 }).map (fun t => (t.c1, t.c2)) =
    some (0x00, 0x00) := by decide

/-- R113, one example per branch. -/
theorem test_ivcUpd_no_carry : (after .ivcUpd { State.zero with c2 := 0xC0, din := 0x32 }).map
    (fun t => (t.c1, t.c2)) = some (0x01, 0xE4) := by decide
theorem test_ivcUpd_carry : (after .ivcUpd { State.zero with c1 := 0xAA, c2 := 0x55, din := 0x0F }).map
    (fun t => (t.c1, t.c2)) = some (0x01, 0xEF) := by decide

/-- R131. -/
theorem test_aesEnc : (after .aesEnc State.zero).map (fun t => t.aout) =
    some #v[0x66, 0xE9, 0x4B, 0xD4, 0xEF, 0x8A, 0x2C, 0x3B, 0x88, 0x4C, 0xFA, 0x59, 0xCA, 0x34, 0x2B, 0x2E] := by
  decide +kernel

/-- R136, the first and the last row of the table. -/
theorem test_ivBuild_1W : (after .ivBuild toBuild).map (fun t => t.ain) =
    some #v[0x60, 0x32, 0x00, 0x55, 0x55, 0x55, 0x55, 0x55, 0x03, 0xC8, 0x01, 0x00, 0x55, 0x55, 0x55, 0x55] := by
  decide +kernel
theorem test_ivBuild_2W :
    (after .ivBuild { State.zero with cfg := 0x05, opc := 0x3D, chal := #v[0xC0, 0xC1, 0xC2, 0xC3, 0xC4, 0xC5] }).map
      (fun t => (t.ain, t.c2)) =
    some (#v[0x3D, 0x55, 0x55, 0x55, 0x55, 0x55, 0x55, 0x55, 0x00, 0x7A, 0xC0, 0xC1, 0xC2, 0xC3, 0xC4, 0xC5],
      0x7A) := by decide +kernel

/-- R141. -/
theorem test_macGen : (after .macGen toBuild).map (fun t => (t.macc, t.mac[0], t.err)) =
    some (#v[0x92, 0x98, 0x58, 0x63, 0xCD, 0xAD], 0x00, 0x00) := by decide +kernel

/-- R143, both examples. -/
theorem test_macVfy_match : (after .macVfy { toBuild with mac := #v[0x92, 0x98, 0x58, 0x63, 0xCD, 0xAD] }).map
    (fun t => (t.status, t.err)) = some (0x03, 0x00) := by decide +kernel
theorem test_macVfy_mismatch : (after .macVfy { toBuild with mac := #v[0x92, 0x98, 0x58, 0x63, 0xCC, 0xAD] }).map
    (fun t => (t.status, t.err)) = some (0x01, 0x00) := by decide +kernel

/-- R145. -/
theorem test_kw1W : (after .kw1W { State.zero with node := #v[0x01, 0x02, 0x03] }).map (fun t => t.wkey) =
    some #v[0x99, 0x26, 0xD3, 0xA3, 0xA9, 0x18, 0xFE, 0x3B, 0x67, 0xB6, 0x7C, 0xA8, 0x88, 0xDA, 0x13, 0x56] := by
  decide +kernel

/-- R146, its example and its error. -/
theorem test_kw2W : (after .kw2W { State.zero with
      cfg := 0x04, chal := #v[0xC0, 0xC1, 0xC2, 0xC3, 0xC4, 0xC5]
      key := #v[0x10, 0x11, 0x12, 0x13, 0x14, 0x15, 0x16, 0x17, 0x18, 0x19, 0x1A, 0x1B, 0x1C, 0x1D, 0x1E, 0x1F] }).map
      (fun t => t.wkey) =
    some #v[0xBC, 0xA6, 0x60, 0x9E, 0x36, 0xCF, 0x9F, 0xD3, 0xB9, 0x63, 0x51, 0x10, 0x75, 0xB9, 0xBE, 0x1C] := by
  decide +kernel
theorem test_kw2W_no_challenge : (after .kw2W State.zero).map (fun t => t.err) = some 0x06 := by decide +kernel

/-- R150, its example. -/
theorem test_frmBuild : (after .frmBuild toBuild).map (fun t => (t.buf, t.tlen, t.buflen, t.crc, t.fcrc, t.err)) =
    some (bufOf frame21, 21, 21, 0x5481, 0x5481, 0x00) := by decide +kernel

/-- R186's example: `ParamsOverflow` wins over `ChallengeRequired`. -/
theorem test_frmBuild_order : (after .frmBuild { armed with cfg := 0x01, plen := 22 }).map (fun t => t.err) =
    some 0x07 := by decide +kernel

/-- The state of R153's example: the built frame with `CTRL1 = 0x80`. -/
def toSerialize : State :=
  { toBuild with
    ctrl0 := 0x0A, ctrl1 := 0x80, mac := #v[0x92, 0x98, 0x58, 0x63, 0xCD, 0xAD], buf := bufOf frame21,
    buflen := 21 }

/-- R153, both examples. -/
theorem test_frmSer : (after .frmSer toSerialize).map (fun t => (t.fcrc, t.buf[1], t.buf[19], t.buf[20])) =
    some (0xD88E, 0x80, 0x8E, 0xD8) := by decide +kernel
theorem test_frmSer_length : (after .frmSer { toSerialize with ctrl0 := 0x0B }).map (fun t => (t.err, t.buf[1])) =
    some (0x03, 0x00) := by decide +kernel

/-- R155, both examples. -/
theorem test_frmParse : (after .frmParse (holding frame21)).map
    (fun t => [t.ctrl0, t.ctrl1] ++ t.dst.toList ++ t.src.toList ++ [t.opc] ++ t.paramBytes ++ [t.rcl, t.rch] ++
      t.mac.toList ++ [t.fcrcl, t.fcrch, t.plen, t.tlen, t.status, t.err]) =
    some (frame21 ++ [2, 21, 0x01, 0x00]) := by decide +kernel
theorem test_frmParse_trunc : (after .frmParse (holding (frame21 ++ [1, 2, 3]))).map
    (fun t => (t.tlen, t.status, t.err)) = some (21, 0x05, 0x00) := by decide +kernel

/-- R157, accepted with the key, and the flipped MAC bit. -/
theorem test_frmValid : (after .frmValid { holding frame21 with cfg := 0x02 }).map
    (fun t => (t.status, t.err, t.crc, t.macc)) =
    some (0x03, 0x00, 0x5481, #v[0x92, 0x98, 0x58, 0x63, 0xCD, 0xAD]) := by decide +kernel
theorem test_frmValid_bad_mac : (after .frmValid { holding
      [0x0A, 0x00, 0x11, 0x22, 0x33, 0xAA, 0xBB, 0xCC, 0x60, 0x32, 0x00, 0x01, 0x00, 0x92, 0x98, 0x58, 0x63, 0xCC, 0xAD,
        0x59, 0x4D] with cfg := 0x02 }).map (fun t => (t.err, t.status, t.mac[4])) =
    some (0x05, 0x01, 0xCC) := by decide +kernel

/-- R171. -/
theorem test_wr_buflen : (after (.wr 0x05 200) armed).map (fun t => t.buflen) = some 32 := by decide +kernel
theorem test_wr_cfg : (after (.wr 0x03 0xFF) armed).map (fun t => t.cfg) = some 0x07 := by decide +kernel

/-- R172: the register, and `0x00` at a reserved address. -/
theorem test_rd : (after (.rd 0x9F 0xFF) { armed with buf := Vector.replicate 32 0x5A, observed := [1] }).map
    (fun t => t.observed) = some [1, 0x5A] := by decide +kernel
theorem test_rd_reserved : (after (.rd 0xB0 0x00) armed).map (fun t => t.observed) = some [0x00] := by decide +kernel

/-! ### Values that meet the hypotheses and the clauses of the statements -/

/-- A well-formed write at each edge: an illegal code, and an assigned code's byte at another address. -/
theorem witness_wellFormed : (Instr.wr 0x00 0x7F).WellFormed ∧ (Instr.wr 0x01 0x80).WellFormed ∧
    (Instr.rd 0xFF 0xFF).WellFormed := by decide

/-- Words for the two branches of StepRunsTheDecodedTransaction. -/
theorem witness_step : ({ armed with pending := [0x10080] } : State).pending = 0x10080 :: [] ∧ armed.pending = [] := by
  decide

/-- A state that reset may leave, with registers that are not zero. -/
def resetState : State := State.resetFrom { State.zero with key := Vector.replicate 16 0xEE, rcl := 0xEE, cfg := 0xEE }

theorem witness_isReset : resetState.IsReset ∧ resetState.rcl = 0xEE := by
  refine ⟨?_, by decide⟩
  constructor <;> decide

/-- The invariant holds at its edges: `BUFLEN` and `TLEN` 32, every defined flag set, the highest error code. -/
theorem witness_inv : ({ armed with status := 0x07, cfg := 0x07, buflen := 32, tlen := 32, err := 0x0B } : State).Inv := by
  refine ⟨fun k hk => ?_, fun k hk => ?_, by decide, by decide, by decide, by decide⟩
  · rcases k with _ | _ | _ | _ | _ | _ | _ | _ | k
    · omega
    · omega
    · omega
    all_goals first | decide | exact BitVec.getLsbD_of_ge _ _ (by omega)
  · rcases k with _ | _ | _ | _ | _ | _ | _ | _ | k
    · omega
    · omega
    · omega
    all_goals first | decide | exact BitVec.getLsbD_of_ge _ _ (by omega)

/-- A step from a state that meets the invariant. -/
theorem witness_step_next : ∃ t, step { armed with pending := [0x100F3] } = .next t := ⟨_, rfl⟩

/-- Transactions of both kinds for OnlyCfgInitArms and CommandsWriteOnlyTheirOperands. -/
theorem witness_commands : isCommand .cfgInit = true ∧ isCommand .frmValid = true ∧
    (∃ t, exec .cfgInit armed = .next t) ∧ (∃ t, exec (.wr 0x01 0x01) armed = .next t) := by
  exact ⟨rfl, rfl, ⟨_, rfl⟩, ⟨_, rfl⟩⟩

/-- A command that fails. -/
theorem witness_failing : ∃ t, exec .crcVfy { armed with buflen := 1 } = .next t ∧ t.err ≠ 0x00 :=
  ⟨_, rfl, by decide⟩

/-- Host writes: the registers with a rule of their own, an ordinary one, a reserved address. -/
theorem witness_host_write : Reg.status ≠ .cmd ∧ Reg.buf 31 ≠ .cmd ∧ regAt 0x1F = none ∧ regAt 0xB0 = none ∧
    regAt 0xFF = none ∧ Reg.wkey 15 ∉ [Reg.cmd, .status, .err, .tlen, .cfg, .buflen] := by decide

/-- Codes next to the assigned ones are none of them; an assigned code is in the table. -/
theorem witness_codes : (0x7F : Byte) ∉
      [0x80, 0x90, 0x91, 0x92, 0x93, 0x94, 0xA0, 0xA1, 0xB0, 0xC0, 0xD0, 0xD1, 0xE0, 0xE1, 0xF0, 0xF1, 0xF2, 0xF3] ∧
    (0xF4 : Byte) ∉
      [0x80, 0x90, 0x91, 0x92, 0x93, 0x94, 0xA0, 0xA1, 0xB0, 0xC0, 0xD0, 0xD1, 0xE0, 0xE1, 0xF0, 0xF1, 0xF2, 0xF3] ∧
    ((0xF3 : Byte), Instr.frmValid) ∈ commandTable := by decide

/-- CRC.VFY and CRC.BUF at `BUFLEN` 1, 2 and 32: refused, and completed. -/
theorem witness_crcVfy : (after .crcVfy { armed with buflen := 1 }).map (fun t => t.err) = some 0x01 ∧
    (after .crcVfy { armed with buflen := 2 }).map (fun t => (t.err, t.matchFlag)) = some (0x00, true) ∧
    (after .crcVfy { armed with buflen := 32 }).map (fun t => t.err) = some 0x00 := by decide +kernel

/-- CRC.APP at `BUFLEN` 30 and 31. -/
theorem witness_crcApp : (after .crcApp { armed with buflen := 30 }).map (fun t => (t.err, t.buflen)) =
    some (0x00, 32) ∧ (after .crcApp { armed with buflen := 31 }).map (fun t => t.err) = some 0x0A := by decide +kernel

/-- A CRC.APP that succeeds, for AppendedCrcVerifies. -/
theorem witness_appended : ∃ t, exec .crcApp { armed with buflen := 30 } = .next t ∧ t.err = 0x00 :=
  ⟨_, rfl, by decide +kernel⟩

/-- The clauses of IV.BUILD, MAC.GEN and MAC.VFY: `PLEN` 22; 21 in 2W without challenge; 21 in 1W, and in 2W with. -/
theorem witness_iv_clauses : (after .ivBuild { armed with plen := 22, cfg := 0x01 }).map (fun t => t.err) = some 0x07 ∧
    (after .ivBuild { armed with plen := 21, cfg := 0x01 }).map (fun t => t.err) = some 0x06 ∧
    (after .ivBuild { armed with plen := 21, cfg := 0x00 }).map (fun t => t.err) = some 0x00 ∧
    (after .ivBuild { armed with plen := 21, cfg := 0x05 }).map (fun t => t.err) = some 0x00 := by decide +kernel
theorem witness_mac_clauses : (after .macGen { armed with plen := 22, cfg := 0x01 }).map (fun t => t.err) = some 0x07 ∧
    (after .macVfy { armed with plen := 21, cfg := 0x01 }).map (fun t => t.err) = some 0x06 ∧
    (after .macGen { armed with plen := 21, cfg := 0x00 }).map (fun t => t.err) = some 0x00 ∧
    (after .macVfy { armed with plen := 21, cfg := 0x05 }).map (fun t => t.err) = some 0x00 := by decide +kernel

/-- Two states that differ in `KEYV`, `CHALV`, control bytes, addresses, challenge and a parameter beyond `PLEN`, 1W. -/
def macLeft : State := { toBuild with ctrl0 := 0xFF, chal := Vector.replicate 6 0xEE }

def macRight : State :=
  { toBuild with cfg := 0x04, dst := Vector.replicate 3 0, params := patch (Vector.replicate 21 0) 0 [0x32, 0x00, 0x99] }

theorem witness_mac_inputs : macLeft.cfgMode = macRight.cfgMode ∧
    (macLeft.cfgMode = true → macLeft.cfgChalv = macRight.cfgChalv) ∧ macLeft.key = macRight.key ∧
    macLeft.opc = macRight.opc ∧ macLeft.plen = macRight.plen ∧
    (∀ i : Fin 21, i.val < macLeft.plen.toNat → macLeft.params[i] = macRight.params[i]) ∧
    (macLeft.cfgMode = false → macLeft.rcl = macRight.rcl ∧ macLeft.rch = macRight.rch) ∧
    (macLeft.cfgMode = true → macLeft.chal = macRight.chal) ∧ macLeft.params ≠ macRight.params ∧
    macLeft.cfgKeyv ≠ macRight.cfgKeyv ∧ macLeft.cfgChalv ≠ macRight.cfgChalv := by decide +kernel

/-- The same in 2W: challenges supplied and equal, different `KEYV` and rolling codes. -/
theorem witness_mac_inputs_2W : ∃ s u : State, s.cfgMode = true ∧ s.cfgMode = u.cfgMode ∧ s.cfgChalv = u.cfgChalv ∧
    s.key = u.key ∧ s.opc = u.opc ∧ s.plen = u.plen ∧
    (∀ i : Fin 21, i.val < s.plen.toNat → s.params[i] = u.params[i]) ∧ s.chal = u.chal ∧ s.rcl ≠ u.rcl ∧
    s.cfgKeyv ≠ u.cfgKeyv :=
  ⟨{ armed with cfg := 0x05, rcl := 0x01 }, { armed with cfg := 0x07, rcl := 0x02 }, by decide +kernel⟩

/-- KW.2W with and without a challenge, and a wrap that is wrapped again. -/
theorem witness_kw2W : armed.cfgChalv = false ∧ ({ armed with cfg := 0x04 } : State).cfgChalv = true := by decide
theorem witness_wrapping_twice : ∃ t u t2 u2, exec .kw1W armed = .next t ∧ exec .kw1W (t.withKey t.wkey) = .next u ∧
    ({ armed with cfg := 0x04 } : State).cfgChalv = true ∧ exec .kw2W { armed with cfg := 0x04 } = .next t2 ∧
    exec .kw2W (t2.withKey t2.wkey) = .next u2 :=
  ⟨_, _, _, _, rfl, rfl, by decide, rfl, rfl⟩

/-- FRM.BUILD's hypotheses at the largest lengths: `PLEN` 13 in 1W, 15 in 2W with a challenge. -/
theorem witness_frmBuild_1W : (let s : State := { armed with plen := 13 }
    s.initFlag = true ∧ s.plen.toNat ≤ 21 ∧ 17 + s.plen.toNat + rollingLength s.cfgMode = 32 ∧
      (s.cfgMode = true → s.cfgChalv = true)) := by decide
theorem witness_frmBuild_2W : (let s : State := { armed with plen := 15, cfg := 0x05 }
    s.initFlag = true ∧ s.plen.toNat ≤ 21 ∧ 17 + s.plen.toNat + rollingLength s.cfgMode = 32 ∧
      s.cfgMode = true ∧ s.cfgChalv = true) := by decide

/-- FRM.BUILD's refusals at their edges: not armed; `PLEN` 22; 14 in 1W and 16 in 2W; 15 in 2W without challenge. -/
theorem witness_frmBuild_refusals : (after .frmBuild State.zero).map (fun t => t.err) = some 0x09 ∧
    (after .frmBuild { armed with plen := 22 }).map (fun t => t.err) = some 0x07 ∧
    (after .frmBuild { armed with plen := 14 }).map (fun t => t.err) = some 0x0A ∧
    (after .frmBuild { armed with plen := 16, cfg := 0x01 }).map (fun t => t.err) = some 0x0A ∧
    (after .frmBuild { armed with plen := 15, cfg := 0x01 }).map (fun t => t.err) = some 0x06 := by decide +kernel

/-- FRM.SER's hypotheses, 1W at `PLEN` 13 and 2W at `PLEN` 0. -/
theorem witness_frmSer_1W : (let s : State := { armed with plen := 13, ctrl0 := 0x15 }
    s.initFlag = true ∧ s.plen.toNat ≤ 21 ∧ 17 + s.plen.toNat + rollingLength (s.ctrl0.getLsbD 5) ≤ 32 ∧
      s.ctrl0.toNat % 32 + 11 = 17 + s.plen.toNat + rollingLength (s.ctrl0.getLsbD 5)) := by decide
theorem witness_frmSer_2W : (let s : State := { armed with plen := 0, ctrl0 := 0xE6 }
    s.initFlag = true ∧ s.plen.toNat ≤ 21 ∧ 17 + s.plen.toNat + rollingLength (s.ctrl0.getLsbD 5) ≤ 32 ∧
      s.ctrl0.toNat % 32 + 11 = 17 + s.plen.toNat + rollingLength (s.ctrl0.getLsbD 5)) := by decide

/-- FRM.SER's refusals at their edges. -/
theorem witness_frmSer_refusals : (after .frmSer State.zero).map (fun t => t.err) = some 0x09 ∧
    (after .frmSer { armed with plen := 22 }).map (fun t => t.err) = some 0x07 ∧
    (after .frmSer { armed with plen := 14, ctrl0 := 0x15 }).map (fun t => t.err) = some 0x0A ∧
    (after .frmSer { armed with plen := 13, ctrl0 := 0x14 }).map (fun t => t.err) = some 0x03 := by decide +kernel

/-- FRM.PARSE's hypotheses at their edges: the shortest 2W frame, the longest 1W frame in a full buffer. -/
theorem witness_frmParse_shortest : (let s := holding frame2W
    s.initFlag = true ∧ 11 ≤ s.buflen.toNat ∧ s.buflen.toNat ≤ 32 ∧
      (byteAt s.buf 0).toNat % 32 + 11 = s.buflen.toNat ∧
      17 + rollingLength ((byteAt s.buf 0).getLsbD 5) = (byteAt s.buf 0).toNat % 32 + 11) := by decide +kernel
theorem witness_frmParse_longest : (let s : State := { armed with buf := bufOf [0x15], buflen := 32 }
    s.initFlag = true ∧ 11 ≤ s.buflen.toNat ∧ s.buflen.toNat ≤ 32 ∧
      (byteAt s.buf 0).toNat % 32 + 11 = s.buflen.toNat ∧
      17 + rollingLength ((byteAt s.buf 0).getLsbD 5) ≤ (byteAt s.buf 0).toNat % 32 + 11) := by decide +kernel

/-- The refusals of a parse at their edges: not armed; `BUFLEN` 10; length field 22; one byte short; a 1W frame of 18
bytes and a 2W frame of 16. -/
theorem witness_parse_refusals : (after .frmParse State.zero).map (fun t => t.err) = some 0x09 ∧
    (after .frmParse { armed with buflen := 10 }).map (fun t => t.err) = some 0x01 ∧
    (after .frmParse { armed with buflen := 11, buf := bufOf [0x16] }).map (fun t => t.err) = some 0x02 ∧
    (after .frmValid { armed with buflen := 31, buf := bufOf [0x15] }).map (fun t => t.err) = some 0x03 ∧
    (after .frmValid { armed with buflen := 32, buf := bufOf [0x07] }).map (fun t => t.err) = some 0x03 ∧
    (after .frmParse { armed with buflen := 32, buf := bufOf [0x25] }).map (fun t => t.err) = some 0x03 := by
  decide +kernel

/-- The clauses of FRM.VALID after a parse that succeeds: bad CRC (R157's second example of S3), in 2W before the missing
challenge (95_test_vectors.md V-VAL row 19), no challenge, no key supplied; with the key they are test_frmValid and test_frmValid_bad_mac. -/
theorem witness_frmValid_clauses :
    (after .frmValid { holding (frame21.set 19 0x80) with cfg := 0x02 }).map (fun t => (t.err, t.matchFlag)) =
      some (0x04, false) ∧
    (after .frmValid (holding (frame2W.set 9 0x01))).map (fun t => (t.err, t.matchFlag)) = some (0x04, false) ∧
    (after .frmValid (holding frame2W)).map (fun t => (t.err, t.matchFlag)) = some (0x06, false) ∧
    (after .frmValid { holding frame2W with cfg := 0x04 }).map (fun t => (t.err, t.matchFlag)) = some (0x00, true) ∧
    (after .frmValid (holding frame21)).map (fun t => (t.err, t.matchFlag)) = some (0x00, true) := by decide +kernel

/-- A parse that succeeds, and the FRM.VALID of the same state. -/
theorem witness_parsed : ∃ p t, exec .frmParse (holding frame21) = .next p ∧ p.err = 0x00 ∧
    exec .frmValid (holding frame21) = .next t :=
  ⟨_, _, rfl, by decide +kernel, rfl⟩

/-- The hypotheses of FrmValidAcceptsAGoodFrame with a key supplied, 1W; its challenge clause in 2W. -/
theorem witness_good_frame_1W : (let s : State := { holding frame21 with cfg := 0x02 }
    s.initFlag = true ∧ (byteAt s.buf 0).getLsbD 5 = false ∧
      (byteAt s.buf 0).toNat % 32 = 6 + 2 + rollingLength false ∧ 17 + 2 + rollingLength false ≤ s.buflen.toNat ∧
      s.buflen.toNat ≤ 32 ∧
      crc16 (s.buf.toList.take (15 + 2 + rollingLength false)) =
        fromLe16 (byteAt s.buf (15 + 2 + rollingLength false)) (byteAt s.buf (16 + 2 + rollingLength false)) ∧
      s.cfgKeyv = true ∧ ∀ j : Fin 6, byteAt s.buf (9 + 2 + rollingLength false + j) =
        (aes128 s.key (iv false ((s.buf.toList.drop 8).take (2 + 1))
          (fromLe16 (byteAt s.buf (9 + 2)) (byteAt s.buf (10 + 2))) s.chal))[j.val]) := by decide +kernel
theorem witness_good_frame_2W : (let s : State := { holding frame2W with cfg := 0x04 }
    s.initFlag = true ∧ (byteAt s.buf 0).getLsbD 5 = true ∧
      (byteAt s.buf 0).toNat % 32 = 6 + 0 + rollingLength true ∧ 17 + 0 + rollingLength true ≤ s.buflen.toNat ∧
      s.buflen.toNat ≤ 32 ∧
      crc16 (s.buf.toList.take (15 + 0 + rollingLength true)) =
        fromLe16 (byteAt s.buf (15 + 0 + rollingLength true)) (byteAt s.buf (16 + 0 + rollingLength true)) ∧
      s.cfgChalv = true ∧ s.cfgKeyv = false) := by decide +kernel

/-- A build that succeeds, 1W and 2W; the flipped bits of SingleBitFlipsAreRejected at their edges. -/
theorem witness_built : ∃ t, exec .frmBuild toBuild = .next t ∧ t.err = 0x00 ∧ t.ctrl0.getLsbD 5 = false ∧
    t.tlen.toNat = 21 :=
  ⟨_, rfl, by decide +kernel, by decide +kernel, by decide +kernel⟩
theorem witness_built_2W : ∃ t, exec .frmBuild { armed with cfg := 0x05 } = .next t ∧ t.err = 0x00 ∧
    t.ctrl0.getLsbD 5 = true ∧ (0x06 : Byte).getLsbD 2 = true :=
  ⟨_, rfl, by decide +kernel, by decide +kernel, by decide⟩
theorem witness_flips : ∃ t, exec .frmBuild toBuild = .next t ∧ t.err = 0x00 ∧ (0 : Fin 32).val < t.tlen.toNat ∧
    (20 : Fin 32).val < t.tlen.toNat ∧ ((0 : Fin 32).val = 0 → 6 ≤ 6) ∧ 7 < 8 :=
  ⟨_, rfl, by decide +kernel, by decide +kernel, by decide +kernel, by decide, by decide⟩

/-- A parse of a buffer whose CRC is correct, for SerializingAParsedFrameGivesItsBytes. -/
theorem witness_parsed_crc : ∃ p, exec .frmParse (holding frame21) = .next p ∧ p.err = 0x00 ∧
    p.fcrc = crc16 ((holding frame21).buf.toList.take (p.tlen.toNat - 2)) :=
  ⟨_, rfl, by decide +kernel, by decide +kernel⟩

/-- The S-box statement's hypothesis at its edges. -/
theorem witness_sbox : (0x01 : Byte) ≠ 0x00 ∧ (0xFF : Byte) ≠ 0x00 ∧ sbox 0x53 = 0xED ∧ sbox 0xFF = 0x16 := by decide

end Sys2Proof.Tests
end

/-! SUPPORT. The register map, reset, and the invariant: what each shared operation, stage and command makes of
`State.Inv`, and the statements of 10_state.md settled from that. -/
namespace Sys2Proof.Proofs

open Sys2Proof.Machine Sys2Proof.Laws

/-! ### The register map (10_state.md R13) -/

/-- A row of the map answers nothing exactly outside its own addresses. -/
theorem mapRow_eq_none_iff {base size : Nat} {cell : Fin size → Reg} {n : Nat} :
    mapRow base size cell n = none ↔ ¬(base ≤ n ∧ n < base + size) := by
  unfold mapRow
  split <;> rename_i h <;> simp [h]

/-- A row whose cells lie in address order from its base answers at `n` only a register of address `n`. -/
theorem addrOf_of_mapRow {base size : Nat} {cell : Fin size → Reg}
    (hcell : ∀ i, (addrOf (cell i)).toNat = base + i) (n : Nat) (r : Reg) (h : mapRow base size cell n = some r) :
    (addrOf r).toNat = n := by
  obtain ⟨⟨hle, hlt⟩, rfl⟩ := mapRow_some.mp h
  rw [hcell]
  exact Nat.add_sub_cancel' hle

/-- Every row of R13 answers at an address only the register that has this address. -/
theorem addrOf_of_mem_registerMap :
    ∀ row ∈ registerMap, ∀ (n : Nat) (r : Reg), row n = some r → (addrOf r).toNat = n := by
  simp only [registerMap, List.forall_mem_cons, List.not_mem_nil, false_imp_iff, implies_true, and_true]
  repeat' apply And.intro
  all_goals exact addrOf_of_mapRow (by decide)

/-- The register found at an address has that address. -/
theorem addrOf_of_regAt {a : Byte} {r : Reg} (h : regAt a = some r) : addrOf r = a := by
  obtain ⟨row, hrow, hr⟩ := List.exists_of_findSome?_eq_some h
  exact BitVec.eq_of_toNat_eq (addrOf_of_mem_registerMap row hrow _ _ hr)

/-- The register at a register's address is that register. -/
theorem regAt_addrOf (r : Reg) : regAt (addrOf r) = some r := by
  cases r with
  | dst i | src i | mac i | params i | key i | ain i | aout i | chal i | macc i | node i | buf i | wkey i =>
    revert i; decide
  | _ => rfl

/-- An address has no register exactly where no row of R13 covers it: at the reserved addresses (20_memory.md R41). -/
theorem regAt_eq_none_iff (a : Byte) :
    regAt a = none ↔
      (a.toNat = 0x1F ∨ (0x35 ≤ a.toNat ∧ a.toNat ≤ 0x3F) ∨ a.toNat = 0x7F ∨ 0xB0 ≤ a.toNat) := by
  simp only [regAt, List.findSome?_eq_none_iff, registerMap, List.forall_mem_cons, mapRow_eq_none_iff,
    List.not_mem_nil, false_imp_iff, implies_true, and_true]
  omega

/-- Settles O13, row by row of the register map. -/
theorem registerMapIsOneToOne : Obligations.RegisterMapIsOneToOne :=
  ⟨regAt_addrOf, fun _ _ => addrOf_of_regAt, regAt_eq_none_iff⟩

/-- A reserved address reads 0 in every state (20_memory.md R41). -/
theorem readAt_of_reserved {a : Byte} (s : State) (h : regAt a = none) : s.readAt a = 0x00 := by
  simp [State.readAt, h]

/-! ### Reset (10_state.md R23) -/

theorem isReset_resetFrom (free : State) : (State.resetFrom free).IsReset := by
  constructor <;> rfl

/-- The registers R23 leaves unspecified hold after reset what they held before it. -/
theorem resetFrom_get_unspecified (free : State) (r : Reg) (h : unspecifiedAtReset r = true) :
    (State.resetFrom free).get r = free.get r := by
  cases r <;> first | rfl | contradiction

/-- Settles O7. -/
theorem resetLeavesTheSpecsValues : Obligations.ResetLeavesTheSpecsValues :=
  ⟨fun free => ⟨isReset_resetFrom free, resetFrom_get_unspecified free, fun _ h => readAt_of_reserved _ h⟩,
    isReset_resetFrom State.zero⟩

theorem inv_of_isReset {s : State} (h : s.IsReset) : s.Inv where
  statusReserved := by simp [h.status]
  cfgReserved := by simp [h.cfg]
  buflen_le := by simp [h.buflen]
  err_le := by simp [h.err]
  err_not_radio := by simp [h.err]
  tlen_range := .inl h.tlen

/-- Settles O8. -/
theorem resetMeetsTheInvariant : Obligations.ResetMeetsTheInvariant :=
  ⟨fun _ => inv_of_isReset, inv_of_isReset (isReset_resetFrom State.zero)⟩

/-! ### The invariant under the shared operations -/

section
variable {s t : State}

/-- The invariant speaks of five registers only: what leaves them alone keeps it. -/
theorem inv_of_eq (h : s.Inv) (hstatus : t.status = s.status := by simp) (herr : t.err = s.err := by simp)
    (hcfg : t.cfg = s.cfg := by simp) (hbuflen : t.buflen = s.buflen := by simp)
    (htlen : t.tlen = s.tlen := by simp) : t.Inv where
  statusReserved := hstatus ▸ h.statusReserved
  cfgReserved := hcfg ▸ h.cfgReserved
  buflen_le := hbuflen ▸ h.buflen_le
  err_le := herr ▸ h.err_le
  err_not_radio := herr ▸ h.err_not_radio
  tlen_range := htlen ▸ h.tlen_range

/-- Writing one of the defined flags of `STATUS` leaves the reserved bits 0 (10_state.md R14). -/
theorem inv_of_status_withBit (h : s.Inv) {k : Nat} (hk : k < 3) (v : Bool) :
    ({ s with status := withBit s.status k v } : State).Inv where
  statusReserved j hj := by
    rw [withBit_getLsbD _ _ _ _ (by omega), if_neg (by omega)]
    exact h.statusReserved j hj
  cfgReserved := h.cfgReserved
  buflen_le := h.buflen_le
  err_le := h.err_le
  err_not_radio := h.err_not_radio
  tlen_range := h.tlen_range

theorem inv_setInit (h : s.Inv) (v : Bool) : (s.setInit v).Inv := inv_of_status_withBit h (by decide) v

theorem inv_setMatch (h : s.Inv) (v : Bool) : (s.setMatch v).Inv := inv_of_status_withBit h (by decide) v

theorem inv_setTrunc (h : s.Inv) (v : Bool) : (s.setTrunc v).Inv := inv_of_status_withBit h (by decide) v

theorem inv_setErr (h : s.Inv) {e : Byte} (hle : e.toNat ≤ 0x0B) (hne : e ≠ 0x08) : (s.setErr e).Inv :=
  { h with err_le := hle, err_not_radio := hne }

/-- `RadioError` is the one kind without a legal code: the block never raises it (60_exceptions.md R180). -/
theorem errorCode_legal {k : ErrorKind} (hk : k ≠ .radioError) :
    (errorCode k).toNat ≤ 0x0B ∧ errorCode k ≠ 0x08 := by
  cases k with
  | radioError => exact absurd rfl hk
  | _ => decide

theorem inv_setErr_errorCode (h : s.Inv) {k : ErrorKind} (hk : k ≠ .radioError) : (s.setErr (errorCode k)).Inv :=
  inv_setErr h (errorCode_legal hk).1 (errorCode_legal hk).2

theorem inv_complete (h : s.Inv) : (complete s).Inv := inv_setErr h (by decide) (by decide)

theorem inv_completePlain (h : s.Inv) : (completePlain s).Inv :=
  inv_complete (inv_setTrunc (inv_setMatch h false) false)

/-- The ending of CRC.VFY and MAC.VFY, whose result is `m`. -/
theorem inv_complete_result (h : s.Inv) (m : Bool) : (complete ((s.setMatch m).setTrunc false)).Inv :=
  inv_complete (inv_setTrunc (inv_setMatch h m) false)

theorem inv_accept (h : s.Inv) : (accept s).Inv := inv_complete (inv_setMatch h true)

theorem inv_raise (h : s.Inv) {k : ErrorKind} (hk : k ≠ .radioError) : (raise k s).Inv :=
  inv_setTrunc (inv_setMatch (inv_setErr_errorCode h hk) false) false

theorem inv_raiseKeepTrunc (h : s.Inv) {k : ErrorKind} (hk : k ≠ .radioError) : (raiseKeepTrunc k s).Inv :=
  inv_setMatch (inv_setErr_errorCode h hk) false

/-! ### The invariant under the stages -/

/-- `BUFLEN` and `TLEN` after a frame of `tl` bytes was serialized (45_frame_codec.md R154). -/
theorem inv_serialize (h : s.Inv) (m : Bool) (p : Nat) {tl : Nat} (hmin : 17 ≤ tl) (hmax : tl ≤ 32) :
    (serialize m p tl s).Inv where
  statusReserved := by simpa using h.statusReserved
  cfgReserved := by simpa using h.cfgReserved
  buflen_le := by simp; omega
  err_le := by simpa using h.err_le
  err_not_radio := by simpa using h.err_not_radio
  tlen_range := .inr (by simp; omega)

/-- `STATUS.TRUNC` and `TLEN` after a frame was loaded (45_frame_codec.md R155). -/
theorem inv_loadFrame (h : s.Inv) (hmin : 17 ≤ statedLength (byteAt s.buf 0))
    (hmax : statedLength (byteAt s.buf 0) ≤ 32) : (loadFrame s).Inv where
  statusReserved := by
    rw [loadFrame_status]
    exact (inv_setTrunc h _).statusReserved
  cfgReserved := by simpa using h.cfgReserved
  buflen_le := by simpa using h.buflen_le
  err_le := by simpa using h.err_le
  err_not_radio := by simpa using h.err_not_radio
  tlen_range := .inr (by simp; omega)

/-! ### The tests of the commands never raise `RadioError` -/

theorem ivError_ne_radioError {k : ErrorKind} (hk : ivError s = some k) : k ≠ .radioError := by
  rintro rfl
  rcases ivError_cases s with ⟨_, h⟩ | ⟨_, _, _, h⟩ | ⟨_, _, h⟩ <;> simp [h] at hk

theorem buildError_ne_radioError {k : ErrorKind} (hk : buildError s = some k) : k ≠ .radioError := by
  rintro rfl
  rcases buildError_cases s with ⟨_, h⟩ | ⟨_, _, h⟩ | ⟨_, _, _, h⟩ | ⟨_, _, _, _, _, h⟩ | ⟨_, _, _, _, h⟩ <;>
    simp [h] at hk

theorem serError_ne_radioError {k : ErrorKind} (hk : serError s = some k) : k ≠ .radioError := by
  rintro rfl
  rcases serError_cases s with ⟨_, h⟩ | ⟨_, _, h⟩ | ⟨_, _, _, h⟩ | ⟨_, _, _, _, h⟩ | ⟨_, _, _, _, h⟩ <;>
    simp [h] at hk

theorem parseError_ne_radioError {k : ErrorKind} (hk : parseError s = some k) : k ≠ .radioError := by
  rintro rfl
  rcases parseError_cases s with ⟨_, h⟩ | ⟨_, _, h⟩ | ⟨_, _, _, h⟩ | ⟨_, _, _, _, h⟩ | ⟨_, _, _, _, h⟩ <;>
    simp [h] at hk

/-- Without an error the frame FRM.BUILD makes has a legal length (45_frame_codec.md R150). -/
theorem totalLength_of_buildError_none (h : buildError s = none) :
    17 ≤ totalLength s.cfgMode s.plen.toNat ∧ totalLength s.cfgMode s.plen.toNat ≤ 32 := by
  rw [totalLength_eq]
  rcases buildError_cases s with ⟨_, e⟩ | ⟨_, _, e⟩ | ⟨_, _, _, e⟩ | ⟨_, _, _, _, _, e⟩ | ⟨_, _, hle, _, _⟩
  case inr.inr.inr.inr => omega
  all_goals simp [e] at h

/-- Without an error the frame FRM.SER writes has a legal length (45_frame_codec.md R153). -/
theorem totalLength_of_serError_none (h : serError s = none) :
    17 ≤ totalLength (modeOf s.ctrl0) s.plen.toNat ∧ totalLength (modeOf s.ctrl0) s.plen.toNat ≤ 32 := by
  rw [totalLength_eq]
  rcases serError_cases s with ⟨_, e⟩ | ⟨_, _, e⟩ | ⟨_, _, _, e⟩ | ⟨_, _, _, _, e⟩ | ⟨_, _, hle, _, _⟩
  case inr.inr.inr.inr => omega
  all_goals simp [e] at h

/-! ### The invariant under the commands -/

theorem inv_crcVfy (h : s.Inv) : (crcVfy s).Inv := by
  by_cases hn : s.buflen.toNat < 2
  · rw [crcVfy_of_lt hn]
    exact inv_raise h (by decide)
  · rw [crcVfy_of_ge (by omega)]
    exact inv_complete_result (inv_of_eq h) _

/-- CRC.APP appends only where two bytes more still fit in `BUF` (40_crc.md R106). -/
theorem inv_crcApp (h : s.Inv) : (crcApp s).Inv := by
  by_cases hn : 30 < s.buflen.toNat
  · rw [crcApp_of_gt hn]
    exact inv_raise h (by decide)
  · rw [crcApp_of_le (by omega)]
    exact inv_completePlain { h with buflen_le := by simp; omega }

theorem inv_ivBuild (h : s.Inv) : (ivBuild s).Inv := by
  cases he : ivError s with
  | some k => rw [ivBuild_of_error he]; exact inv_raise h (ivError_ne_radioError he)
  | none => rw [ivBuild_of_none he]; exact inv_completePlain (inv_of_eq h)

theorem inv_macGen (h : s.Inv) : (macGen s).Inv := by
  cases he : ivError s with
  | some k => rw [macGen_of_error he]; exact inv_raise h (ivError_ne_radioError he)
  | none => rw [macGen_of_none he]; exact inv_completePlain (inv_of_eq h)

theorem inv_macVfy (h : s.Inv) : (macVfy s).Inv := by
  cases he : ivError s with
  | some k => rw [macVfy_of_error he]; exact inv_raise h (ivError_ne_radioError he)
  | none => rw [macVfy_of_none he]; exact inv_complete_result (inv_of_eq h) _

theorem inv_kw2W (h : s.Inv) : (kw2W s).Inv := by
  cases hc : s.cfgChalv with
  | true => rw [kw2W_of_chalv hc]; exact inv_completePlain (inv_of_eq h)
  | false => rw [kw2W_of_not_chalv hc]; exact inv_raise h (by decide)

theorem inv_frmBuild (h : s.Inv) : (frmBuild s).Inv := by
  cases he : buildError s with
  | some k => rw [frmBuild_of_error he]; exact inv_raise h (buildError_ne_radioError he)
  | none =>
    rw [frmBuild_of_none he]
    obtain ⟨hmin, hmax⟩ := totalLength_of_buildError_none he
    exact inv_completePlain (inv_serialize (inv_of_eq h) _ _ hmin hmax)

theorem inv_frmSer (h : s.Inv) : (frmSer s).Inv := by
  cases he : serError s with
  | some k => rw [frmSer_of_error he]; exact inv_raise h (serError_ne_radioError he)
  | none =>
    rw [frmSer_of_none he]
    obtain ⟨hmin, hmax⟩ := totalLength_of_serError_none he
    exact inv_completePlain (inv_serialize h _ _ hmin hmax)

/-- The frame a parse without an error loads keeps the invariant: its length is 17 to 32 (45_frame_codec.md R155). -/
theorem inv_loadFrame_of_parseError_none (h : s.Inv) (he : parseError s = none) : (loadFrame s).Inv := by
  rcases parse_cases s with ⟨k, _, hk, _⟩ | ⟨_, _, hmin, hmax, _⟩
  · simp [he] at hk
  · exact inv_loadFrame h (by omega) hmax

theorem inv_frmParse (h : s.Inv) : (frmParse s).Inv := by
  cases hi : s.initFlag with
  | false => rw [frmParse_of_not_init hi]; exact inv_raise h (by decide)
  | true =>
    cases he : parseError s with
    | some k => rw [frmParse_of_error hi he]; exact inv_raise h (parseError_ne_radioError he)
    | none =>
      rw [frmParse_of_none hi he]
      exact inv_complete (inv_setMatch (inv_loadFrame_of_parseError_none h he) false)

/-- Each outcome of FRM.VALID's tests on a parsed frame (45_frame_codec.md R157). -/
theorem inv_validateFrame (h : s.Inv) : (validateFrame s).Inv := by
  have hcrc : (recomputeCrc s).Inv := inv_of_eq h
  rcases validateFrame_cases s with ⟨_, he⟩ | ⟨_, _, _, he⟩ | ⟨_, _, _, he⟩ | ⟨_, _, _, he⟩ <;> rw [he]
  · exact inv_raiseKeepTrunc hcrc (by decide)
  · exact inv_raiseKeepTrunc hcrc (by decide)
  · have hmac : (macStage (modeOf s.ctrl0) (recomputeCrc s)).Inv := inv_of_eq hcrc
    split
    · exact inv_accept hmac
    · exact inv_raiseKeepTrunc hmac (by decide)
  · exact inv_accept hcrc

theorem inv_frmValid (h : s.Inv) : (frmValid s).Inv := by
  cases hi : s.initFlag with
  | false => rw [frmValid_of_not_init hi]; exact inv_raise h (by decide)
  | true =>
    cases he : parseError s with
    | some k => rw [frmValid_of_error hi he]; exact inv_raise h (parseError_ne_radioError he)
    | none => rw [frmValid_of_none hi he]; exact inv_validateFrame (inv_loadFrame_of_parseError_none h he)

/-- Whatever byte is written to `CMD`, running it keeps the invariant. -/
theorem inv_runCommand (h : s.Inv) (c : Byte) : (runCommand c s).Inv := by
  unfold runCommand
  cases commandOf c with
  | none => exact inv_raise h (by decide)
  | some i =>
    cases i with
    | cfgInit => exact inv_completePlain (inv_setInit h true)
    | crcInit | crcUpd | crcBuf | ivcInit | ivcUpd | aesEnc | kw1W => exact inv_completePlain (inv_of_eq h)
    | crcVfy => exact inv_crcVfy h
    | crcApp => exact inv_crcApp h
    | ivBuild => exact inv_ivBuild h
    | macGen => exact inv_macGen h
    | macVfy => exact inv_macVfy h
    | kw2W => exact inv_kw2W h
    | frmBuild => exact inv_frmBuild h
    | frmSer => exact inv_frmSer h
    | frmParse => exact inv_frmParse h
    | frmValid => exact inv_frmValid h
    | wr | rd => exact inv_raise h (by decide)

/-! ### The invariant under a host write (46_config_host.md R171) -/

/-- The byte `CFG` takes has bits 7:3 zero (10_state.md R16). -/
theorem getLsbD_and_seven (v : Byte) {k : Nat} (hk : 3 ≤ k) : (v &&& 0x07).getLsbD k = false := by
  have h7 : (0x07 : Byte).getLsbD k = false :=
    Nat.testBit_lt_two_pow (Nat.lt_of_lt_of_le (by decide) (Nat.pow_le_pow_right (by decide : 0 < 2) hk))
  rw [BitVec.getLsbD_and, h7, Bool.and_false]

theorem saturate32_le (v : Byte) : (saturate32 v).toNat ≤ 32 := by
  unfold saturate32
  split
  · assumption
  · decide

/-- Of the five registers of the invariant a write changes `CFG`, masked, and `BUFLEN`, saturated. -/
theorem inv_writeAt (h : s.Inv) (a v : Byte) : (s.writeAt a v).Inv := by
  unfold State.writeAt
  cases regAt a with
  | none => exact h
  | some r =>
    cases r with
    | status | err | tlen => exact h
    | cfg => exact { h with cfgReserved := fun _ hk => getLsbD_and_seven v hk }
    | buflen => exact { h with buflen_le := saturate32_le v }
    | _ => exact inv_of_eq h rfl rfl rfl rfl rfl

end

/-! ### Every step -/

/-- What a transaction can do: issue a byte to `CMD` and run it, write another register, or read. -/
theorem exec_cases (i : Instr) (s : State) :
    (∃ c, exec i s = .next (runCommand c (s.setCmd c))) ∨
    (∃ a v, a ≠ 0x00 ∧ exec i s = .next (s.writeAt a v)) ∨
    (∃ a, exec i s = .next (s.observe (s.readAt a))) := by
  cases i with
  | cfgInit => exact .inl ⟨0x80, rfl⟩
  | crcInit => exact .inl ⟨0x90, rfl⟩
  | crcUpd => exact .inl ⟨0x91, rfl⟩
  | crcBuf => exact .inl ⟨0x92, rfl⟩
  | crcVfy => exact .inl ⟨0x93, rfl⟩
  | crcApp => exact .inl ⟨0x94, rfl⟩
  | ivcInit => exact .inl ⟨0xA0, rfl⟩
  | ivcUpd => exact .inl ⟨0xA1, rfl⟩
  | aesEnc => exact .inl ⟨0xB0, rfl⟩
  | ivBuild => exact .inl ⟨0xC0, rfl⟩
  | macGen => exact .inl ⟨0xD0, rfl⟩
  | macVfy => exact .inl ⟨0xD1, rfl⟩
  | kw1W => exact .inl ⟨0xE0, rfl⟩
  | kw2W => exact .inl ⟨0xE1, rfl⟩
  | frmBuild => exact .inl ⟨0xF0, rfl⟩
  | frmSer => exact .inl ⟨0xF1, rfl⟩
  | frmParse => exact .inl ⟨0xF2, rfl⟩
  | frmValid => exact .inl ⟨0xF3, rfl⟩
  | wr a v =>
    by_cases ha : a = 0x00
    · exact .inl ⟨v, if_pos ha⟩
    · exact .inr (.inl ⟨a, v, ha, if_neg ha⟩)
  | rd a _ => exact .inr (.inr ⟨a, rfl⟩)

/-- Every transaction keeps the invariant. -/
theorem inv_exec {i : Instr} {s t : State} (h : s.Inv) (he : exec i s = .next t) : t.Inv := by
  rcases exec_cases i s with ⟨c, hc⟩ | ⟨a, v, _, hw⟩ | ⟨a, hr⟩
  · cases hc.symm.trans he
    exact inv_runCommand (inv_of_eq h) c
  · cases hw.symm.trans he
    exact inv_writeAt h a v
  · cases hr.symm.trans he
    exact inv_of_eq h

/-- Settles O9: the idle step keeps the state, and every transaction keeps the invariant. -/
theorem stepKeepsTheInvariant : Obligations.StepKeepsTheInvariant := by
  intro s t h hstep
  rcases step_cases hstep with ⟨_, rfl⟩ | ⟨w, rest, _, he⟩
  · exact h
  · have hrest : (s.withHostList rest).Inv := inv_of_eq h
    exact inv_exec hrest he

end Sys2Proof.Proofs

/-! SUPPORT. Runs over a list of words, the two host transactions as words, and register access by a register's own
address: reading after writing (20_memory.md R48) settled from these. -/
namespace Sys2Proof.Proofs

open Sys2Proof.Machine Sys2Proof.Laws

/-! ### Runs word by word (46_config_host.md R178) -/

/-- A step takes the first word of the host's list and runs what it decodes to. -/
theorem step_withHostList_cons (s : State) (w : HostWord) (rest : List HostWord) :
    step (s.withHostList (w :: rest)) = exec (decode w) (s.withHostList rest) := rfl

/-- A run over no words ends where it began, with the list empty. -/
theorem runWords_nil (s : State) : runWords s [] = .next (s.withHostList []) := rfl

/-- A run goes on over the rest of the list from the state its first word leaves. -/
theorem runWords_cons {s t : State} {w : HostWord} {rest : List HostWord}
    (h : exec (decode w) (s.withHostList rest) = .next (t.withHostList rest)) :
    runWords s (w :: rest) = runWords t rest :=
  run_succ _ ((step_withHostList_cons s w rest).trans h)

/-! ### The words of the host transactions (30_encoding.md R60, R61) -/

/-- A write word whose address is not that of `CMD` is a plain `WR`. -/
theorem decode_makeWord_write {a : Byte} (h : a ≠ 0x00) (d : Byte) : decode (makeWord true a d) = .wr a d := by
  rw [decode, wordIsWrite_makeWord, wordAddr_makeWord, wordData_makeWord, if_pos rfl, if_neg h]

/-- A read word is an `RD`, whatever its address. -/
theorem decode_makeWord_read (a d : Byte) : decode (makeWord false a d) = .rd a d := by
  rw [decode, wordIsWrite_makeWord, wordAddr_makeWord, wordData_makeWord, if_neg Bool.false_ne_true]

/-! ### Register access by the register's address (46_config_host.md R171, R172) -/

/-- Only `CMD` is at address `0x00`. -/
theorem addrOf_ne_zero {r : Reg} (h : r ≠ .cmd) : addrOf r ≠ 0x00 := by
  intro h0
  have hcmd : regAt (addrOf r) = some .cmd := by rw [h0]; exact regAt_addrOf .cmd
  exact h (Option.some.inj ((regAt_addrOf r).symm.trans hcmd))

theorem readAt_addrOf (s : State) (r : Reg) : s.readAt (addrOf r) = s.get r := by
  simp only [State.readAt, regAt_addrOf]

/-- A register without a rule of its own in R171 takes the byte as it is. -/
theorem writeAt_addrOf {r : Reg} (h : r ∉ [Reg.cmd, .status, .err, .tlen, .cfg, .buflen]) (s : State) (v : Byte) :
    s.writeAt (addrOf r) v = s.set r v := by
  simp only [State.writeAt, regAt_addrOf]
  cases r with
  | cmd | status | err | tlen | cfg | buflen => simp at h
  | _ => rfl

/-- A `WR` word to such a register sets that register; what is left of the host's list is kept. -/
theorem exec_write_addrOf {r : Reg} (h : r ∉ [Reg.cmd, .status, .err, .tlen, .cfg, .buflen]) (v : Byte) (s : State)
    (rest : List HostWord) :
    exec (decode (makeWord true (addrOf r) v)) (s.withHostList rest) = .next ((s.set r v).withHostList rest) := by
  have ha : addrOf r ≠ 0x00 := addrOf_ne_zero fun hr => h (by simp [hr])
  calc exec (decode (makeWord true (addrOf r) v)) (s.withHostList rest)
    _ = .next ((s.withHostList rest).writeAt (addrOf r) v) := by
        rw [decode_makeWord_write ha]; exact if_neg ha
    _ = .next ((s.set r v).withHostList rest) := by rw [writeAt_addrOf h, set_withHostList]

/-- An `RD` word returns the register at its address to the host; what is left of the host's list is kept. -/
theorem exec_read_addrOf (r : Reg) (x : Byte) (s : State) (rest : List HostWord) :
    exec (decode (makeWord false (addrOf r) x)) (s.withHostList rest) =
      .next ((s.observe (s.get r)).withHostList rest) := by
  calc exec (decode (makeWord false (addrOf r) x)) (s.withHostList rest)
    _ = .next ((s.withHostList rest).observe ((s.withHostList rest).readAt (addrOf r))) := by
        rw [decode_makeWord_read]; rfl
    _ = .next ((s.observe (s.get r)).withHostList rest) := by rw [readAt_addrOf, withHostList_get]; rfl

/-! ### Reading after writing (20_memory.md R48) -/

/-- The end state of the two steps: the register set, and its new byte returned to the host. -/
theorem runWords_write_read {r : Reg} (h : r ∉ [Reg.cmd, .status, .err, .tlen, .cfg, .buflen]) (v x : Byte)
    (s : State) :
    runWords s [makeWord true (addrOf r) v, makeWord false (addrOf r) x] =
      .next (((s.set r v).observe v).withHostList []) := by
  rw [runWords_cons (exec_write_addrOf h v s _), runWords_cons (exec_read_addrOf r x _ _), runWords_nil,
    get_set_same]

/-- Settles O18: the run ends in the state with the register set and its byte observed. -/
theorem readAfterWriteReturnsTheByte : Obligations.ReadAfterWriteReturnsTheByte := by
  intro r v x s h
  refine ⟨_, runWords_write_read h v x s, ?observed, ?written, ?others⟩
  case observed => simp
  case written => simp
  case others =>
    intro q hq
    simpa using get_set_other s r q v hq

end Sys2Proof.Proofs

/-! SUPPORT. The decoder and the encoder undo each other, the decoder's tests in numbers, and unassigned command bytes
(30_encoding.md R60 to R63). -/
namespace Sys2Proof.Proofs

open Sys2Proof.Machine Sys2Proof.Laws

/-! ### Commands and their codes (30_encoding.md R61, R62) -/

/-- The code of a command: the table gives the command back, its word issues the code, and the command runs as the body
the code selects, once `CMD` holds it. -/
theorem exists_code_of_isCommand {i : Instr} (h : isCommand i = true) :
    ∃ c, commandOf c = some i ∧ encode i = commandWord c ∧ ∀ s, exec i s = .next (runCommand c (s.setCmd c)) := by
  cases i with
  | cfgInit => exact ⟨0x80, rfl, rfl, fun _ => rfl⟩
  | crcInit => exact ⟨0x90, rfl, rfl, fun _ => rfl⟩
  | crcUpd => exact ⟨0x91, rfl, rfl, fun _ => rfl⟩
  | crcBuf => exact ⟨0x92, rfl, rfl, fun _ => rfl⟩
  | crcVfy => exact ⟨0x93, rfl, rfl, fun _ => rfl⟩
  | crcApp => exact ⟨0x94, rfl, rfl, fun _ => rfl⟩
  | ivcInit => exact ⟨0xA0, rfl, rfl, fun _ => rfl⟩
  | ivcUpd => exact ⟨0xA1, rfl, rfl, fun _ => rfl⟩
  | aesEnc => exact ⟨0xB0, rfl, rfl, fun _ => rfl⟩
  | ivBuild => exact ⟨0xC0, rfl, rfl, fun _ => rfl⟩
  | macGen => exact ⟨0xD0, rfl, rfl, fun _ => rfl⟩
  | macVfy => exact ⟨0xD1, rfl, rfl, fun _ => rfl⟩
  | kw1W => exact ⟨0xE0, rfl, rfl, fun _ => rfl⟩
  | kw2W => exact ⟨0xE1, rfl, rfl, fun _ => rfl⟩
  | frmBuild => exact ⟨0xF0, rfl, rfl, fun _ => rfl⟩
  | frmSer => exact ⟨0xF1, rfl, rfl, fun _ => rfl⟩
  | frmParse => exact ⟨0xF2, rfl, rfl, fun _ => rfl⟩
  | frmValid => exact ⟨0xF3, rfl, rfl, fun _ => rfl⟩
  | wr | rd => exact absurd h Bool.false_ne_true

/-- A word that issues a byte to `CMD` is read as the command of the byte, as a `WR` where R62 assigns none. -/
theorem decode_commandWord (c : Byte) : decode (commandWord c) = (commandOf c).getD (.wr 0x00 c) := by
  rw [decode, commandWord, wordIsWrite_makeWord, wordAddr_makeWord, wordData_makeWord, if_pos rfl, if_pos rfl]
  cases commandOf c <;> rfl

/-- The word of a command is read as the command. -/
theorem decode_encode_of_isCommand {i : Instr} (h : isCommand i = true) : decode (encode i) = i := by
  obtain ⟨c, hc, hword, _⟩ := exists_code_of_isCommand h
  rw [hword, decode_commandWord, hc, Option.getD_some]

/-! ### Decoding and encoding (30_encoding.md R60 to R62) -/

/-- A `WR` is well-formed unless it writes an assigned code to `CMD` (30_encoding.md R61). -/
theorem wellFormed_wr_iff (a d : Byte) : (Instr.wr a d).WellFormed ↔ (a = 0x00 → commandOf d = none) := by
  simp [Instr.WellFormed, Instr.wf, imp_iff_not_or]

/-- Settles O1: a command by its code, the two host transactions by their fields. -/
theorem decodeOfEncodeIsTheInstruction : Obligations.DecodeOfEncodeIsTheInstruction := by
  intro i hwf
  cases i with
  | wr a d =>
    by_cases ha : a = 0x00
    · subst ha
      have hnone := (wellFormed_wr_iff _ d).mp hwf rfl
      exact (decode_commandWord d).trans (by rw [hnone, Option.getD_none])
    · exact decode_makeWord_write ha d
  | rd a x => exact decode_makeWord_read a x
  | _ => exact decode_encode_of_isCommand rfl

/-- A word is made of three fields in just one way. -/
theorem makeWord_inj {v w : Bool} {a b c d : Byte} : makeWord v a c = makeWord w b d ↔ v = w ∧ a = b ∧ c = d := by
  constructor
  · intro h
    exact ⟨by simpa using congrArg wordIsWrite h, by simpa using congrArg wordAddr h, by simpa using congrArg wordData h⟩
  · rintro ⟨rfl, rfl, rfl⟩
    rfl

theorem exists_makeWord (w : HostWord) : ∃ write addr data, w = makeWord write addr data :=
  ⟨_, _, _, (makeWord_fields w).symm⟩

/-- Settles O2: every word is made of three fields, which say how it is read. -/
theorem encodeOfDecodeIsTheWord : Obligations.EncodeOfDecodeIsTheWord := by
  intro w
  obtain ⟨write, a, d, rfl⟩ := exists_makeWord w
  cases write with
  | false => rw [decode_makeWord_read]; exact ⟨rfl, rfl⟩
  | true =>
    by_cases ha : a = 0x00
    · subst ha
      change (decode (commandWord d)).WellFormed ∧ encode (decode (commandWord d)) = commandWord d
      rw [decode_commandWord]
      cases hc : commandOf d with
      | some i => exact commandOf_some d i hc
      | none => exact ⟨(wellFormed_wr_iff _ d).mpr fun _ => hc, rfl⟩
    · rw [decode_makeWord_write ha]
      exact ⟨(wellFormed_wr_iff a d).mpr fun h0 => absurd h0 ha, rfl⟩

/-! ### The decoder's tests in numbers (30_encoding.md R61) -/

/-- Bits 15:8 of a word made of fields are its `addr` field, as the shift of R61 reads them. -/
theorem shift_makeWord (v : Bool) (a d : Byte) : (makeWord v a d >>> 8).setWidth 8 = a := by
  apply BitVec.eq_of_getLsbD_eq
  intro k hk
  have h : (wordAddr (makeWord v a d)).getLsbD k = a.getLsbD k := by rw [wordAddr_makeWord]
  simpa [wordAddr, hk] using h

/-- Bits 7:0 of a word made of fields are its `data` field. -/
theorem setWidth_makeWord (v : Bool) (a d : Byte) : (makeWord v a d).setWidth 8 = d := by
  apply BitVec.eq_of_getLsbD_eq
  intro k hk
  have h : (wordData (makeWord v a d)).getLsbD k = d.getLsbD k := by rw [wordData_makeWord]
  simpa [wordData, hk] using h

/-- The mask of R61's first test keeps the fields `W` and `addr`. -/
theorem makeWord_and_write_addr (v : Bool) (a d : Byte) : makeWord v a d &&& 0x1FF00 = makeWord v a 0x00 := by
  apply BitVec.eq_of_getLsbD_eq
  intro k hk
  interval_cases k <;> simp [makeWord]

/-- R61's first test: a write, to address `0x00`. -/
theorem makeWord_selects_cmd_iff (v : Bool) (a d : Byte) :
    makeWord v a d &&& 0x1FF00 = 0x10000 ↔ v = true ∧ a = 0x00 := by
  rw [makeWord_and_write_addr, show (0x10000 : HostWord) = makeWord true 0x00 0x00 from rfl, makeWord_inj]
  simp

/-- R60's test of bit 16: a write. -/
theorem makeWord_is_write_iff (v : Bool) (a d : Byte) : makeWord v a d &&& 0x10000 = 0x10000 ↔ v = true := by
  have h : makeWord v a d &&& (0x10000 : HostWord) = (BitVec.ofBool v).setWidth 17 <<< 16 := makeWord_and_bit16 v a d
  rw [h]
  cases v <;> decide

/-- Looking up row `(k, i)` of a table first, and testing for the word that issues `k` first, are the same choice. -/
theorem getD_lookup_cons_eq_ite {c k : Byte} {i x y : Instr} {rest : List (Byte × Instr)} {n : HostWord}
    (hn : n = commandWord k) (hrest : (rest.lookup c).getD x = y) :
    (List.lookup c ((k, i) :: rest)).getD x = if commandWord c = n then i else y := by
  rw [List.lookup_cons]
  by_cases h : c = k
  · simp [hn, h]
  · have hne : commandWord c ≠ n := fun he => h (makeWord_inj.mp (he.trans hn)).2.2
    rw [if_neg hne, beq_false_of_ne h, hrest]

/-- Settles O3: the three fields decide the branch, and in the first one the table is looked up row by row. -/
theorem decoderTestsCommandsFirst : Obligations.DecoderTestsCommandsFirst := by
  intro w
  obtain ⟨write, a, d, rfl⟩ := exists_makeWord w
  simp only [makeWord_selects_cmd_iff, makeWord_is_write_iff, shift_makeWord, setWidth_makeWord]
  cases write with
  | false => exact decode_makeWord_read a d
  | true =>
    by_cases ha : a = 0x00
    · subst ha
      rw [if_pos ⟨rfl, rfl⟩]
      refine (decode_commandWord d).trans ?_
      iterate 18 refine getD_lookup_cons_eq_ite rfl ?_
      rfl
    · rw [if_neg fun h => ha h.2, if_pos rfl]
      exact decode_makeWord_write ha d

/-! ### Unassigned codes (30_encoding.md R63) -/

/-- Settles O15: the table has no row for such a byte, and the write raises as its whole effect. -/
theorem unassignedCodesAreIllegal : Obligations.UnassignedCodesAreIllegal := by
  intro c s hc
  have hnone : commandOf c = none := List.lookup_eq_none_iff.mpr (by simpa [commandTable] using hc)
  apply refusesWith_of_raise .illegalCommand
  calc exec (.wr 0x00 c) s
    _ = .next (runCommand c (s.setCmd c)) := rfl
    _ = .next (raise .illegalCommand (s.setCmd c)) := by rw [runCommand, hnone]

end Sys2Proof.Proofs

/-! SUPPORT. The operand table 30_encoding.md R66 as a frame: what each ending, each stage and each command leaves
unchanged. -/
namespace Sys2Proof.Proofs

open Sys2Proof.Machine Sys2Proof.Laws

section
variable {i : Instr} {s t u : State}

/-! ### The endings as frames (60_exceptions.md R183, R184) -/

/-- What differs in `CMD`, `STATUS` and `ERR` only keeps the rest. -/
theorem keeps_endingReg_update (s : State) (c st e : Byte) :
    Keeps endingReg s { s with cmd := c, status := st, err := e } := by
  refine ⟨fun r hr => ?_, rfl, rfl⟩
  cases r with
  | cmd | status | err => cases hr
  | _ => rfl

theorem keeps_setCmd (c : Byte) (s : State) : Keeps endingReg s (s.setCmd c) := keeps_endingReg_update s c _ _

theorem keeps_setInit (v : Bool) (s : State) : Keeps endingReg s (s.setInit v) := keeps_endingReg_update s _ _ _

theorem keeps_setMatch (v : Bool) (s : State) : Keeps endingReg s (s.setMatch v) := keeps_endingReg_update s _ _ _

theorem keeps_complete (s : State) : Keeps endingReg s (complete s) := keeps_endingReg_update s _ _ _

theorem keeps_completePlain (s : State) : Keeps endingReg s (completePlain s) := keeps_endingReg_update s _ _ _

/-- The ending of CRC.VFY and MAC.VFY. -/
theorem keeps_complete_result (m : Bool) (s : State) : Keeps endingReg s (complete ((s.setMatch m).setTrunc false)) :=
  keeps_endingReg_update s _ _ _

theorem keeps_raise (k : ErrorKind) (s : State) : Keeps endingReg s (raise k s) := keeps_endingReg_update s _ _ _

theorem keeps_raiseKeepTrunc (k : ErrorKind) (s : State) : Keeps endingReg s (raiseKeepTrunc k s) :=
  keeps_endingReg_update s _ _ _

theorem keeps_accept (s : State) : Keeps endingReg s (accept s) := keeps_endingReg_update s _ _ _

/-- An ending stays within the row of every command. -/
theorem keepsOthers_of_keeps_endingReg (h : Keeps endingReg s t) : KeepsOthers i s t :=
  Keeps_mono h fun r hr => by simp [hr]

/-- After what stays within the row of a command, an ending does so too. -/
theorem keepsOthers_trans_ending (h : KeepsOthers i s t) (he : Keeps endingReg t u) : KeepsOthers i s u :=
  Keeps_trans h (keepsOthers_of_keeps_endingReg he)

/-- What stays within the row of a command stays within every larger row. -/
theorem keepsOthers_mono {j : Instr} (h : KeepsOthers i s t)
    (hij : ∀ r, commandWrites i r = true → commandWrites j r = true) : KeepsOthers j s t :=
  Keeps_mono h fun r hr => by
    rw [Bool.or_eq_true] at hr ⊢
    exact hr.imp_right (hij r)

/-! ### The writes and stages of the commands, each within the row of R66 it has by itself -/

/-- Writing `CRC` stays within every row that names it. -/
theorem keepsOthers_setCrc (hcrcl : commandWrites i .crcl = true) (hcrch : commandWrites i .crch = true) (v : Half)
    (s : State) : KeepsOthers i s (s.setCrc v) := by
  refine ⟨fun r hr => ?_, rfl, rfl⟩
  cases r with
  | crcl => simp [hcrcl] at hr
  | crch => simp [hcrch] at hr
  | _ => rfl

/-- Writing the accumulators stays within every row that names them. -/
theorem keepsOthers_accumulators (hc1 : commandWrites i .c1 = true) (hc2 : commandWrites i .c2 = true) (a b : Byte)
    (s : State) : KeepsOthers i s { s with c1 := a, c2 := b } := by
  refine ⟨fun r hr => ?_, rfl, rfl⟩
  cases r with
  | c1 => simp [hc1] at hr
  | c2 => simp [hc2] at hr
  | _ => rfl

theorem keepsOthers_aout (block : Block) (s : State) : KeepsOthers .aesEnc s { s with aout := block } := by
  refine ⟨fun r hr => ?_, rfl, rfl⟩
  cases r with
  | aout => cases hr
  | _ => rfl

/-- The writes of CRC.APP (40_crc.md R106). -/
theorem keepsOthers_append (v : Half) (bytes : Vector Byte 32) (n : Byte) (s : State) :
    KeepsOthers .crcApp s { s.setCrc v with buf := bytes, buflen := n } := by
  refine ⟨fun r hr => ?_, rfl, rfl⟩
  cases r with
  | crcl | crch | buf | buflen => cases hr
  | _ => rfl

theorem keepsOthers_ivStage (m : Bool) (s : State) : KeepsOthers .ivBuild s (ivStage m s) := by
  refine ⟨fun r hr => ?_, ivStage_pending m s, ivStage_observed m s⟩
  cases r with
  | c1 | c2 | ain => cases hr
  | _ => simp [State.get]

theorem keepsOthers_macStage (m : Bool) (s : State) : KeepsOthers .macGen s (macStage m s) := by
  refine ⟨fun r hr => ?_, macStage_pending m s, macStage_observed m s⟩
  cases r with
  | c1 | c2 | ain | aout | macc => cases hr
  | _ => simp [State.get]

theorem keepsOthers_wrapStage (block : Block) (s : State) : KeepsOthers .kw1W s (wrapStage block s) := by
  refine ⟨fun r hr => ?_, wrapStage_pending block s, wrapStage_observed block s⟩
  cases r with
  | ain | aout | wkey => cases hr
  | _ => simp [State.get]

theorem keepsOthers_fillFrame (m : Bool) (tl : Nat) (s : State) : KeepsOthers .frmBuild s (fillFrame m tl s) := by
  refine ⟨fun r hr => ?_, fillFrame_pending m tl s, fillFrame_observed m tl s⟩
  cases r with
  | ctrl0 | ctrl1 | c1 | c2 | ain | aout | macc | mac => cases hr
  | _ => simp [State.get]

theorem keepsOthers_serialize (m : Bool) (p tl : Nat) (s : State) : KeepsOthers .frmSer s (serialize m p tl s) := by
  refine ⟨fun r hr => ?_, serialize_pending m p tl s, serialize_observed m p tl s⟩
  cases r with
  | crcl | crch | fcrcl | fcrch | buf | buflen | tlen => cases hr
  | _ => simp [State.get]

theorem keepsOthers_loadFrame (s : State) : KeepsOthers .frmParse s (loadFrame s) := by
  refine ⟨fun r hr => ?_, loadFrame_pending s, loadFrame_observed s⟩
  cases r with
  | status | ctrl0 | ctrl1 | dst | src | opc | plen | params | rcl | rch | mac | fcrcl | fcrch | tlen => cases hr
  | _ => simp [State.get]

/-! ### Rows within rows of R66: the stages a command shares with another one -/

theorem commandWrites_frmBuild_of_frmSer (r : Reg) (h : commandWrites .frmSer r = true) :
    commandWrites .frmBuild r = true := by
  cases r with
  | crcl | crch | fcrcl | fcrch | buf | buflen | tlen => rfl
  | _ => cases h

theorem commandWrites_frmValid_of_frmParse (r : Reg) (h : commandWrites .frmParse r = true) :
    commandWrites .frmValid r = true := by
  cases r with
  | ctrl0 | ctrl1 | dst | src | opc | plen | params | rcl | rch | mac | fcrcl | fcrch | tlen => rfl
  | _ => cases h

theorem commandWrites_frmValid_of_macGen (r : Reg) (h : commandWrites .macGen r = true) :
    commandWrites .frmValid r = true := by
  cases r with
  | c1 | c2 | ain | aout | macc => rfl
  | _ => cases h

theorem commandWrites_macVfy_of_macGen (r : Reg) (h : commandWrites .macGen r = true) :
    commandWrites .macVfy r = true := by
  cases r with
  | c1 | c2 | ain | aout | macc => rfl
  | _ => cases h

theorem commandWrites_kw2W_of_kw1W (r : Reg) (h : commandWrites .kw1W r = true) :
    commandWrites .kw2W r = true := by
  cases r with
  | ain | aout | wkey => rfl
  | _ => cases h

/-! ### The commands (30_encoding.md R66) -/

theorem keepsOthers_raise (k : ErrorKind) (s : State) : KeepsOthers i s (raise k s) :=
  keepsOthers_of_keeps_endingReg (keeps_raise k s)

theorem keepsOthers_completePlain (h : KeepsOthers i s t) : KeepsOthers i s (completePlain t) :=
  keepsOthers_trans_ending h (keeps_completePlain t)

theorem keepsOthers_cfgInit (s : State) : KeepsOthers .cfgInit s (cfgInit s) :=
  keepsOthers_completePlain (keepsOthers_of_keeps_endingReg (keeps_setInit true s))

theorem keepsOthers_crcVfy (s : State) : KeepsOthers .crcVfy s (crcVfy s) := by
  by_cases hn : s.buflen.toNat < 2
  · rw [crcVfy_of_lt hn]
    exact keepsOthers_raise _ s
  · rw [crcVfy_of_ge (by omega)]
    exact keepsOthers_trans_ending (keepsOthers_setCrc rfl rfl _ s) (keeps_complete_result _ _)

theorem keepsOthers_crcApp (s : State) : KeepsOthers .crcApp s (crcApp s) := by
  by_cases hn : 30 < s.buflen.toNat
  · rw [crcApp_of_gt hn]
    exact keepsOthers_raise _ s
  · rw [crcApp_of_le (by omega)]
    exact keepsOthers_completePlain (keepsOthers_append _ _ _ s)

theorem keepsOthers_ivBuild (s : State) : KeepsOthers .ivBuild s (ivBuild s) := by
  cases he : ivError s with
  | some k => rw [ivBuild_of_error he]; exact keepsOthers_raise k s
  | none => rw [ivBuild_of_none he]; exact keepsOthers_completePlain (keepsOthers_ivStage _ s)

theorem keepsOthers_macGen (s : State) : KeepsOthers .macGen s (macGen s) := by
  cases he : ivError s with
  | some k => rw [macGen_of_error he]; exact keepsOthers_raise k s
  | none => rw [macGen_of_none he]; exact keepsOthers_completePlain (keepsOthers_macStage _ s)

theorem keepsOthers_macVfy (s : State) : KeepsOthers .macVfy s (macVfy s) := by
  cases he : ivError s with
  | some k => rw [macVfy_of_error he]; exact keepsOthers_raise k s
  | none =>
    rw [macVfy_of_none he]
    have hmac := keepsOthers_mono (keepsOthers_macStage s.cfgMode s) commandWrites_macVfy_of_macGen
    exact keepsOthers_trans_ending hmac (keeps_complete_result _ _)

theorem keepsOthers_kw2W (s : State) : KeepsOthers .kw2W s (kw2W s) := by
  cases hc : s.cfgChalv with
  | true =>
    rw [kw2W_of_chalv hc]
    exact keepsOthers_completePlain (keepsOthers_mono (keepsOthers_wrapStage _ s) commandWrites_kw2W_of_kw1W)
  | false => rw [kw2W_of_not_chalv hc]; exact keepsOthers_raise _ s

theorem keepsOthers_frmBuild (s : State) : KeepsOthers .frmBuild s (frmBuild s) := by
  cases he : buildError s with
  | some k => rw [frmBuild_of_error he]; exact keepsOthers_raise k s
  | none =>
    rw [frmBuild_of_none he]
    exact keepsOthers_completePlain (Keeps_trans (keepsOthers_fillFrame _ _ s)
      (keepsOthers_mono (keepsOthers_serialize _ _ _ _) commandWrites_frmBuild_of_frmSer))

theorem keepsOthers_frmSer (s : State) : KeepsOthers .frmSer s (frmSer s) := by
  cases he : serError s with
  | some k => rw [frmSer_of_error he]; exact keepsOthers_raise k s
  | none => rw [frmSer_of_none he]; exact keepsOthers_completePlain (keepsOthers_serialize _ _ _ s)

theorem keepsOthers_frmParse (s : State) : KeepsOthers .frmParse s (frmParse s) := by
  cases hi : s.initFlag with
  | false => rw [frmParse_of_not_init hi]; exact keepsOthers_raise _ s
  | true =>
    cases he : parseError s with
    | some k => rw [frmParse_of_error hi he]; exact keepsOthers_raise k s
    | none =>
      rw [frmParse_of_none hi he]
      exact keepsOthers_trans_ending (keepsOthers_loadFrame s)
        (Keeps_trans (keeps_setMatch false _) (keeps_complete _))

/-- Each outcome of FRM.VALID's tests on a parsed frame (45_frame_codec.md R157). -/
theorem keepsOthers_validateFrame (s : State) : KeepsOthers .frmValid s (validateFrame s) := by
  have hcrc : KeepsOthers .frmValid s (recomputeCrc s) := keepsOthers_setCrc rfl rfl _ s
  rcases validateFrame_cases s with ⟨_, he⟩ | ⟨_, _, _, he⟩ | ⟨_, _, _, he⟩ | ⟨_, _, _, he⟩ <;> rw [he]
  · exact keepsOthers_trans_ending hcrc (keeps_raiseKeepTrunc _ _)
  · exact keepsOthers_trans_ending hcrc (keeps_raiseKeepTrunc _ _)
  · have hmac : KeepsOthers .frmValid s (macStage (modeOf s.ctrl0) (recomputeCrc s)) :=
      Keeps_trans hcrc (keepsOthers_mono (keepsOthers_macStage _ _) commandWrites_frmValid_of_macGen)
    split
    · exact keepsOthers_trans_ending hmac (keeps_accept _)
    · exact keepsOthers_trans_ending hmac (keeps_raiseKeepTrunc _ _)
  · exact keepsOthers_trans_ending hcrc (keeps_accept _)

theorem keepsOthers_frmValid (s : State) : KeepsOthers .frmValid s (frmValid s) := by
  cases hi : s.initFlag with
  | false => rw [frmValid_of_not_init hi]; exact keepsOthers_raise _ s
  | true =>
    cases he : parseError s with
    | some k => rw [frmValid_of_error hi he]; exact keepsOthers_raise k s
    | none =>
      rw [frmValid_of_none hi he]
      have hload := keepsOthers_mono (keepsOthers_loadFrame s) commandWrites_frmValid_of_frmParse
      exact Keeps_trans hload (keepsOthers_validateFrame _)

/-- Running the byte a command is selected by stays within the command's row. -/
theorem keepsOthers_runCommand {c : Byte} (hc : commandOf c = some i) (s : State) :
    KeepsOthers i s (runCommand c s) := by
  rw [runCommand, hc]
  cases i with
  | cfgInit => exact keepsOthers_cfgInit s
  | crcInit | crcUpd | crcBuf => exact keepsOthers_completePlain (keepsOthers_setCrc rfl rfl _ s)
  | crcVfy => exact keepsOthers_crcVfy s
  | crcApp => exact keepsOthers_crcApp s
  | ivcInit | ivcUpd => exact keepsOthers_completePlain (keepsOthers_accumulators rfl rfl _ _ s)
  | aesEnc => exact keepsOthers_completePlain (keepsOthers_aout _ s)
  | ivBuild => exact keepsOthers_ivBuild s
  | macGen => exact keepsOthers_macGen s
  | macVfy => exact keepsOthers_macVfy s
  | kw1W => exact keepsOthers_completePlain (keepsOthers_wrapStage _ s)
  | kw2W => exact keepsOthers_kw2W s
  | frmBuild => exact keepsOthers_frmBuild s
  | frmSer => exact keepsOthers_frmSer s
  | frmParse => exact keepsOthers_frmParse s
  | frmValid => exact keepsOthers_frmValid s
  | wr a d => exact absurd hc (commandOf_ne_host c a d).1
  | rd a x => exact absurd hc (commandOf_ne_host c a x).2

end

/-- Settles O11: the command's byte in `CMD`, then the body the byte selects. -/
theorem commandsWriteOnlyTheirOperands : Obligations.CommandsWriteOnlyTheirOperands := by
  intro i s h
  obtain ⟨c, hc, _, hexec⟩ := exists_code_of_isCommand h
  have hcmd : KeepsOthers i s (s.setCmd c) := keepsOthers_of_keeps_endingReg (keeps_setCmd c s)
  exact ⟨_, hexec s, Keeps_trans hcmd (keepsOthers_runCommand hc _)⟩

end Sys2Proof.Proofs

/-! SUPPORT. The CRC commands: the byte step as the listing, the CRC of a growing buffer, the residue law, and what each
command leaves (40_crc.md). -/
namespace Sys2Proof.Proofs

open Sys2Proof.Machine Sys2Proof.Laws

/-! ### One byte (40_crc.md R100) -/

/-- Settles O20: the listing's value after `k` iterations is that of `k` iterations of `crcShift`. -/
theorem crcByteIsTheListing : Obligations.CrcByteIsTheListing := by
  intro crc b
  refine ⟨fun k => (crcShifts k (crc ^^^ b.setWidth 16)).toNat, ?start, ?iterate, rfl⟩
  case start =>
    have hb : (b.setWidth 16).toNat = b.toNat := BitVec.toNat_setWidth_of_le (by decide)
    exact (BitVec.toNat_xor _ _).trans (congrArg (crc.toNat ^^^ ·) hb)
  case iterate =>
    intro k _
    simp only [crcShifts_succ, crcShift_toNat]

/-! ### The residue law (40_crc.md R108) -/

/-- Its own low byte clears the low half of the register; what is left is shifted down without an XOR. -/
theorem crcByte_loByte (c : Half) : crcByte c (loByte c) = c >>> 8 := by
  have hlow : ∀ k, k < 8 → (c ^^^ (loByte c).setWidth 16).getLsbD k = false := by
    intro k hk
    simp [loByte, hk, Nat.lt_trans hk (by decide : 8 < 16)]
  have hshift : (c ^^^ (loByte c).setWidth 16) >>> 8 = c >>> 8 := by
    apply BitVec.eq_of_getLsbD_eq
    intro k _
    simp [loByte]
  rw [crcByte, crcShifts_of_low_zero 8 _ hlow, hshift]

/-- Settles O26: the low byte moves the high byte down, and the high byte clears the rest. -/
theorem crcResidueIsZero : Obligations.CrcResidueIsZero := by
  intro s
  generalize hc : crc16 s = c
  calc crc16 (s ++ le16 c)
    _ = crcByte (crcByte c (loByte c)) (hiByte c) := by rw [crc16_append, hc]; rfl
    _ = crcByte (c >>> 8) (loByte (c >>> 8)) := by rw [crcByte_loByte]; rfl
    _ = c >>> 8 >>> 8 := crcByte_loByte _
    _ = 0x0000 := by rw [← BitVec.shiftRight_add]; exact BitVec.ushiftRight_eq_zero (by decide)

/-! ### The bytes of the buffer -/

/-- One byte more of the buffer. -/
theorem bufBytes_succ (s : State) {n : Nat} (h : n < 32) : s.bufBytes (n + 1) = s.bufBytes n ++ [byteAt s.buf n] := by
  simp [State.bufBytes, List.take_add_one, byteAt_of_lt, h]

/-- Buffers that agree below `n` hold the same first `n` bytes. -/
theorem bufBytes_congr {s t : State} {n : Nat} (h : ∀ i : Fin 32, i.val < n → t.buf[i] = s.buf[i]) :
    t.bufBytes n = s.bufBytes n := by
  apply List.ext_getElem
  · simp [State.bufBytes]
  · intro i hi _
    obtain ⟨hin, hi32⟩ : i < n ∧ i < 32 := by simpa [State.bufBytes] using hi
    simpa [State.bufBytes] using h ⟨i, hi32⟩ hin

/-! ### Commands without a test (40_crc.md R102 to R104) -/

/-- A command that ran stayed within its row of 30_encoding.md R66. -/
theorem keepsOthers_of_exec {i : Instr} {s t : State} (hi : isCommand i = true) (h : exec i s = .next t) :
    KeepsOthers i s t := by
  obtain ⟨u, hu, hkeeps⟩ := commandsWriteOnlyTheirOperands i s hi
  cases hu.symm.trans h
  exact hkeeps

/-- Settles O22. -/
theorem crcInitClearsTheCrc : Obligations.CrcInitClearsTheCrc := fun _ =>
  ⟨_, rfl, ends_completePlain rfl rfl, keepsOthers_of_exec rfl rfl, rfl, rfl⟩

/-- Settles O23: the two byte registers are the 16-bit value, before and after. -/
theorem crcUpdFeedsDin : Obligations.CrcUpdFeedsDin := by
  intro s
  refine ⟨_, rfl, ends_completePlain rfl rfl, keepsOthers_of_exec rfl rfl, ?_⟩
  have hold : BitVec.ofNat 16 (s.crcl.toNat + 256 * s.crch.toNat) = s.crc := by
    rw [← fromLe16_toNat, BitVec.ofNat_toNat, BitVec.setWidth_eq]
    rfl
  rw [hold, ← fromLe16_toNat]
  exact congrArg BitVec.toNat (fromLe16_loByte_hiByte _)

/-- Settles O21: the CRC of the first `k` bytes, for each `k`. -/
theorem crcBufFeedsTheBufferInOrder : Obligations.CrcBufFeedsTheBufferInOrder := by
  intro s hn
  refine ⟨_, rfl, ends_completePlain rfl rfl, keepsOthers_of_exec rfl rfl, fun k => crc16 (s.bufBytes k), rfl, ?feed,
    setCrc_crc _ s⟩
  case feed =>
    intro k hk
    simp only [bufBytes_succ s (Nat.lt_of_lt_of_le hk hn), crc16_snoc]

/-! ### CRC.VFY and CRC.APP (40_crc.md R105, R106) -/

/-- A value is the one stored in two bytes exactly when it has these bytes. -/
theorem eq_fromLe16_iff (c : Half) (lo hi : Byte) : c = fromLe16 lo hi ↔ lo = loByte c ∧ hi = hiByte c := by
  rw [← fromLe16_inj, fromLe16_loByte_hiByte, eq_comm]

/-- Settles O24: the refusal, and the comparison of two 16-bit values as one of their bytes. -/
theorem crcVfyComparesTheLastTwoBytes : Obligations.CrcVfyComparesTheLastTwoBytes := by
  intro s _
  split
  case isTrue hlt => exact refusesWith_of_raise .frameTooShort (congrArg Host.Outcome.next (crcVfy_of_lt hlt))
  case isFalse hlt =>
    have hexec : exec .crcVfy s = .next _ :=
      congrArg Host.Outcome.next (crcVfy_of_ge (s := s.setCmd 0x93) (Nat.le_of_not_lt hlt))
    refine ⟨_, hexec, keepsOthers_of_exec rfl hexec, setCrc_crc _ s, ?ends⟩
    simp only [beq_eq_decide, eq_fromLe16_iff]
    exact ends_result rfl rfl

/-- What was written at `off` is read back there, byte by byte. -/
theorem byteAt_patch_add {m : Nat} (v : Vector Byte m) {off k : Nat} {bytes : List Byte} (hk : k < bytes.length)
    (h : off + k < m) : byteAt (patch v off bytes) (off + k) = bytes[k] := by
  rw [byteAt_of_lt _ _ h, patch_getElem_of_mem _ _ _ _ h (by omega) (by omega)]
  simp only [Nat.add_sub_cancel_left]

/-- CRC.APP with room for two bytes: the state it leaves, in terms of the state before its issue. -/
theorem exec_crcApp_of_le {s : State} (h : s.buflen.toNat ≤ 30) :
    exec .crcApp s = .next (completePlain { (s.setCmd 0x94).setCrc (crc16 (s.bufBytes s.buflen.toNat)) with
      buf := patch s.buf s.buflen.toNat (le16 (crc16 (s.bufBytes s.buflen.toNat)))
      buflen := BitVec.ofNat 8 (s.buflen.toNat + 2) }) :=
  congrArg Host.Outcome.next (crcApp_of_le (s := s.setCmd 0x94) h)

/-- Settles O25: the refusal, and the two bytes written from `BUFLEN` on. -/
theorem crcAppAppendsTheCrc : Obligations.CrcAppAppendsTheCrc := by
  intro s
  split
  case isTrue hgt => exact refusesWith_of_raise .bufferTooSmall (congrArg Host.Outcome.next (crcApp_of_gt hgt))
  case isFalse hgt =>
    have hroom : s.buflen.toNat ≤ 30 := Nat.le_of_not_lt hgt
    have hexec := exec_crcApp_of_le hroom
    refine ⟨_, hexec, ends_completePlain rfl rfl, keepsOthers_of_exec rfl hexec, setCrc_crc _ s, ?length,
      byteAt_patch_add s.buf (k := 0) (by rw [length_le16]; decide) (by omega),
      byteAt_patch_add s.buf (k := 1) (by rw [length_le16]; decide) (by omega), ?others⟩
    case length => exact Nat.mod_eq_of_lt (by omega)
    case others =>
      intro i hlow hhigh
      exact patch_getElem_of_not_mem _ _ _ _ i.isLt (by rw [length_le16]; omega)

/-! ### After CRC.APP (40_crc.md R106) -/

/-- The buffer ends in the CRC of the bytes before it, which is also in `CRC`. -/
structure EndsInItsCrc (t : State) : Prop where
  two_le : 2 ≤ t.buflen.toNat
  le_32 : t.buflen.toNat ≤ 32
  crc : t.crc = crc16 (t.bufBytes (t.buflen.toNat - 2))
  low : byteAt t.buf (t.buflen.toNat - 2) = t.crcl
  high : byteAt t.buf (t.buflen.toNat - 1) = t.crch

/-- CRC.APP that completes leaves such a buffer: the appended bytes come after those the CRC was taken of. -/
theorem endsInItsCrc_of_crcApp {s t : State} (h : exec .crcApp s = .next t) (h0 : t.err = 0x00) : EndsInItsCrc t := by
  have happ := crcAppAppendsTheCrc s
  split at happ
  case isTrue =>
    obtain ⟨u, hu, ⟨_, herr, _⟩, _⟩ := happ
    cases hu.symm.trans h
    simp [h0] at herr
  case isFalse =>
    obtain ⟨u, hu, _, _, hcrc, hlen, hlow, hhigh, hothers⟩ := happ
    cases hu.symm.trans h
    have hbody : t.bufBytes s.buflen.toNat = s.bufBytes s.buflen.toNat :=
      bufBytes_congr fun i hi => hothers i (by omega) (by omega)
    constructor
    case two_le | le_32 => omega
    case crc => rw [hlen, Nat.add_sub_cancel, hbody]; exact hcrc
    case low => rw [hlen, Nat.add_sub_cancel]; exact hlow
    case high => rw [hlen]; exact hhigh

/-- The whole of such a buffer is a string followed by its CRC. -/
theorem EndsInItsCrc.bufBytes_eq {t : State} (h : EndsInItsCrc t) :
    t.bufBytes t.buflen.toNat = t.bufBytes (t.buflen.toNat - 2) ++ le16 t.crc := by
  have htwo := h.two_le
  have hmax := h.le_32
  have hlow := bufBytes_succ t (n := t.buflen.toNat - 2) (by omega)
  have hhigh := bufBytes_succ t (n := t.buflen.toNat - 1) (by omega)
  rw [h.low, show t.buflen.toNat - 2 + 1 = t.buflen.toNat - 1 by omega] at hlow
  rw [h.high, hlow, Nat.sub_add_cancel (by omega)] at hhigh
  simpa [le16, State.crc] using hhigh

/-- Settles O27: CRC.VFY finds in the last two bytes what it computes, and CRC.BUF meets the residue law. -/
theorem appendedCrcVerifies : Obligations.AppendedCrcVerifies := by
  intro s t happ h0
  have h := endsInItsCrc_of_crcApp happ h0
  constructor
  case left =>
    have hvfy := crcVfyComparesTheLastTwoBytes t h.le_32
    rw [if_neg (Nat.not_lt_of_le h.two_le)] at hvfy
    obtain ⟨u, hu, _, hcrc, _, herr, hmatch, _⟩ := hvfy
    have heq : u.crc = t.crc := hcrc.trans h.crc.symm
    obtain ⟨hlow, hhigh⟩ := (fromLe16_inj _ _ _ _).mp heq
    exact ⟨u, hu, hmatch.trans (decide_eq_true ⟨h.low.trans hlow.symm, h.high.trans hhigh.symm⟩), herr, heq⟩
  case right =>
    refine ⟨_, rfl, (setCrc_crc _ t).trans ?_, rfl⟩
    change crc16 (t.bufBytes t.buflen.toNat) = 0x0000
    rw [h.bufBytes_eq, h.crc]
    exact crcResidueIsZero _

end Sys2Proof.Proofs

/-! SUPPORT. The IV checksum: one byte of it as a shift of the register `c1:c2` with a feedback, and what its two
commands leave (41_iv_checksum.md). -/
namespace Sys2Proof.Proofs

open Sys2Proof.Machine Sys2Proof.Laws

/-! ### Shifting a byte left by one -/

theorem msb_eq_decide_byte (t : Byte) : t.msb = decide (128 ≤ t.toNat) := BitVec.msb_eq_decide t

theorem toNat_shiftLeft_one (x : Byte) : (x <<< 1).toNat = 2 * x.toNat % 256 := by
  rw [BitVec.toNat_shiftLeft, Nat.shiftLeft_eq, Nat.mul_comm]

/-- Shifting the top bit of `t` in adds it: the shifted byte is even. -/
theorem toNat_shiftConcat_msb (x t : Byte) :
    (x.shiftConcat t.msb).toNat = 2 * x.toNat % 256 + if 128 ≤ t.toNat then 1 else 0 := by
  rw [BitVec.toNat_shiftConcat, Nat.shiftLeft_eq, msb_eq_decide_byte, Bool.toNat, Bool.cond_decide]
  split <;> omega

/-- `s` of R110: the bit the listing ORs into the shifted byte is the one shifted in. -/
theorem shiftLeft_or_topBit (x t : Byte) :
    (x <<< 1) ||| (if t.toNat ≥ 128 then 1#8 else 0#8) = x.shiftConcat t.msb := by
  rw [msb_eq_decide_byte]
  apply BitVec.eq_of_getLsbD_eq
  intro i hi
  rw [BitVec.getLsbD_shiftConcat]
  cases i with
  | zero => by_cases ht : 128 ≤ t.toNat <;> simp [ht]
  | succ k =>
    have hk : k < 8 := Nat.lt_of_succ_lt hi
    by_cases ht : 128 ≤ t.toNat <;> simp [ht, hi, hk]

/-! ### One byte (41_iv_checksum.md R110) -/

/-- The closed form of R110, note 4. -/
theorem ivckByte_eq (c1 c2 b : Byte) :
    ivckByte (c1, c2) b =
      if c1.msb then (c1.shiftConcat (b ^^^ c2).msb ^^^ 0x55, ((b ^^^ c2) <<< 1) ^^^ 0x5B)
      else (c1.shiftConcat (b ^^^ c2).msb, (b ^^^ c2) <<< 1) := by
  simp only [ivckByte, shiftLeft_or_topBit, BitVec.msb_eq_getLsbD_last]
  rfl

/-! ### The register `c1:c2` (41_iv_checksum.md R110, note 4) -/

/-- XOR acts on the two bytes of a 16-bit value separately. -/
theorem fromLe16_xor (a b c d : Byte) : fromLe16 (a ^^^ c) (b ^^^ d) = fromLe16 a b ^^^ fromLe16 c d := by
  have hlow : loByte (fromLe16 a b ^^^ fromLe16 c d) = a ^^^ c := by
    rw [loByte, BitVec.setWidth_xor]
    exact congrArg₂ (· ^^^ ·) (loByte_fromLe16 a b) (loByte_fromLe16 c d)
  have hhigh : hiByte (fromLe16 a b ^^^ fromLe16 c d) = b ^^^ d := by
    rw [hiByte, BitVec.ushiftRight_xor_distrib, BitVec.setWidth_xor]
    exact congrArg₂ (· ^^^ ·) (hiByte_fromLe16 a b) (hiByte_fromLe16 c d)
  rw [← hlow, ← hhigh, fromLe16_loByte_hiByte]

/-- A byte XORed into a 16-bit value goes into the low byte. -/
theorem fromLe16_xor_setWidth (lo hi b : Byte) : fromLe16 lo hi ^^^ b.setWidth 16 = fromLe16 (b ^^^ lo) hi := by
  have hb : fromLe16 b 0x00 = b.setWidth 16 := by simp [fromLe16]
  rw [← hb, ← fromLe16_xor, BitVec.xor_comm lo b]
  exact congrArg (fromLe16 _) BitVec.xor_zero

/-- Shifting a 16-bit value left moves the top bit of the low byte into the high byte. -/
theorem fromLe16_shiftLeft_one (lo hi : Byte) :
    fromLe16 lo hi <<< 1 = fromLe16 (lo <<< 1) (hi.shiftConcat lo.msb) := by
  apply BitVec.eq_of_toNat_eq
  rw [BitVec.toNat_shiftLeft, Nat.shiftLeft_eq, fromLe16_toNat, fromLe16_toNat, toNat_shiftLeft_one,
    toNat_shiftConcat_msb]
  split <;> omega

/-- Settles O30: XOR the byte into the low byte, shift, and feed back `0x55:0x5B` when `c1` loses a 1. -/
theorem checksumIsAShiftRegister : Obligations.ChecksumIsAShiftRegister := by
  intro c1 c2 b
  rw [ivckByte_eq, fromLe16_xor_setWidth, fromLe16_shiftLeft_one]
  cases c1.msb with
  | false => exact BitVec.xor_zero.symm
  | true => exact fromLe16_xor _ _ _ _

/-! ### The commands (41_iv_checksum.md R112, R113) -/

/-- Settles O28. -/
theorem ivcInitClearsTheAccumulators : Obligations.IvcInitClearsTheAccumulators := fun _ =>
  ⟨_, rfl, ends_completePlain rfl rfl, keepsOthers_of_exec rfl rfl, rfl, rfl⟩

/-- IVC.UPD feeds `DIN` to the accumulators it finds. -/
theorem exec_ivcUpd (s : State) : ∃ t, exec .ivcUpd s = .next t ∧ Ends 0xA1 0x00 false false s t ∧
    KeepsOthers .ivcUpd s t ∧ (t.c1, t.c2) = ivckByte (s.c1, s.c2) s.din :=
  ⟨_, rfl, ends_completePlain rfl rfl, keepsOthers_of_exec rfl rfl, rfl⟩

/-- Settles O29: the two branches of the closed form in natural numbers, where the mask commutes with the XOR. -/
theorem ivcUpdIsTheListing : Obligations.IvcUpdIsTheListing := by
  intro s
  obtain ⟨t, hexec, hends, hkeeps, hacc⟩ := exec_ivcUpd s
  refine ⟨t, hexec, hends, hkeeps, ?_⟩
  have hm : (s.din ^^^ s.c2).toNat = s.din.toNat ^^^ s.c2.toNat := BitVec.toNat_xor _ _
  have hsh := toNat_shiftConcat_msb s.c1 (s.din ^^^ s.c2)
  have hlow := toNat_shiftLeft_one (s.din ^^^ s.c2)
  rw [hm] at hsh hlow
  rw [ivckByte_eq, msb_eq_decide_byte] at hacc
  by_cases hcarry : 128 ≤ s.c1.toNat
  · obtain ⟨h1, h2⟩ := Prod.mk.inj (hacc.trans (if_pos (decide_eq_true hcarry)))
    refine (if_neg (Nat.not_lt_of_le hcarry)).mpr ⟨?_, ?_⟩
    · rw [h1, BitVec.toNat_xor, hsh]; rfl
    · rw [h2, BitVec.toNat_xor, hlow]; exact (Nat.xor_mod_two_pow (n := 8)).symm
  · obtain ⟨h1, h2⟩ := Prod.mk.inj (hacc.trans (if_neg (mt of_decide_eq_true hcarry)))
    refine (if_pos (Nat.lt_of_not_le hcarry)).mpr ⟨?_, ?_⟩
    · rw [h1, hsh]
    · rw [h2, hlow]

end Sys2Proof.Proofs

/-! SUPPORT. The cipher: the S-box table against its definition, ShiftRows and MixColumns against the matrix, the
standard's two example vectors, and AES.ENC (42_aes.md). -/
namespace Sys2Proof.Proofs

open Sys2Proof.Machine Sys2Proof.Laws

/-! ### Rotating a byte -/

/-- Bit `i` of a byte rotated right by `k`: the index of the affine map's listing (42_aes.md R123). -/
theorem getLsbD_rotateRight_byte (x : Byte) {k i : Nat} (hk : k < 8) (hi : i < 8) :
    (x.rotateRight k).getLsbD i = x.getLsbD ((i + k) % 8) := by
  rw [BitVec.getLsbD_rotateRight, Nat.mod_eq_of_lt hk]
  by_cases h : i < 8 - k
  · rw [decide_eq_true h, cond_true, Nat.mod_eq_of_lt (by omega), Nat.add_comm]
  · rw [decide_eq_false h, decide_eq_true hi, cond_false, Bool.true_and]
    congr 1
    omega

theorem rotateRight_xor (x y : Byte) {k : Nat} (hk : k < 8) :
    (x ^^^ y).rotateRight k = x.rotateRight k ^^^ y.rotateRight k := by
  apply BitVec.eq_of_getLsbD_eq
  intro i hi
  simp only [BitVec.getLsbD_xor, getLsbD_rotateRight_byte _ hk hi]

theorem rotateRight_rotateRight (x : Byte) {k l : Nat} (hk : k < 8) (hl : l < 8) :
    (x.rotateRight k).rotateRight l = x.rotateRight ((k + l) % 8) := by
  have hmod (n : Nat) : n % 8 < 8 := Nat.mod_lt n (by decide)
  apply BitVec.eq_of_getLsbD_eq
  intro i hi
  simp only [getLsbD_rotateRight_byte, hk, hl, hi, hmod]
  congr 1
  omega

theorem rotateRight_zero (x : Byte) : x.rotateRight 0 = x := by
  apply BitVec.eq_of_getLsbD_eq
  intro i hi
  rw [getLsbD_rotateRight_byte x (by decide) hi, Nat.add_zero, Nat.mod_eq_of_lt hi]

/-! ### The S-box (42_aes.md R123) -/

/-- The affine map undone: what the S-box's entry says the inverse was. -/
def sboxAffineInverse (z : Byte) : Byte := z.rotateRight 2 ^^^ z.rotateRight 5 ^^^ z.rotateRight 7 ^^^ 0x05

/-- Every rotation of `z` but `z` itself occurs twice and cancels, and the two constants cancel each other. -/
theorem sboxAffine_sboxAffineInverse (z : Byte) : sboxAffine (sboxAffineInverse z) = z := by
  simp only [sboxAffine, sboxAffineInverse, rotateRight_xor, rotateRight_rotateRight, rotateRight_zero, Nat.reduceLT,
    Nat.reduceAdd, Nat.reduceMod]
  generalize z.rotateRight 1 = z1, z.rotateRight 2 = z2, z.rotateRight 3 = z3, z.rotateRight 4 = z4,
    z.rotateRight 5 = z5, z.rotateRight 6 = z6, z.rotateRight 7 = z7
  have hconst : sboxAffine 0x05 = 0#8 := by decide
  calc
    _ = z ^^^ (z1 ^^^ z1) ^^^ (z2 ^^^ z2) ^^^ (z3 ^^^ z3) ^^^ (z4 ^^^ z4) ^^^ (z5 ^^^ z5) ^^^ (z6 ^^^ z6) ^^^
        (z7 ^^^ z7) ^^^ sboxAffine 0x05 := by rw [sboxAffine]; ac_rfl
    _ = z := by simp only [hconst, BitVec.xor_self, BitVec.xor_zero]

/-- The table read back through the affine map is the inverse in the field. The table is data: this checks its 255
entries one by one. -/
theorem gfTimes_sboxAffineInverse_sbox :
    ∀ x : Byte, x ≠ 0x00 → gfTimes x (sboxAffineInverse (sbox x)) = 0x01 := by decide +kernel

/-- Settles O32: the inverse is read off the table. -/
theorem sboxIsTheAffineMapOfTheInverse : Obligations.SboxIsTheAffineMapOfTheInverse :=
  ⟨by decide, fun x hx => ⟨sboxAffineInverse (sbox x), gfTimes_sboxAffineInverse_sbox x hx,
    (sboxAffine_sboxAffineInverse _).symm⟩⟩

/-! ### ShiftRows and MixColumns (42_aes.md R127, R128) -/

@[simp] theorem xtime_zero : xtime 0#8 = 0#8 := by decide

/-- The only factors encryption needs, as R122 gives them. -/
theorem gfTimes_two (a : Byte) : gfTimes a 0x02 = xtime a := by simp [gfTimes, List.range_succ]

theorem gfTimes_three (a : Byte) : gfTimes a 0x03 = times3 a := by simp [gfTimes, List.range_succ, times3]

/-- Every row of the matrix is the row above rotated by one place. -/
theorem mixRow_eq_gfTimes (r : Fin 4) (a : Nat → Byte) :
    mixRow r (a 0) (a 1) (a 2) (a 3) =
      gfTimes (a r) 0x02 ^^^ gfTimes (a ((r + 1) % 4)) 0x03 ^^^ a ((r + 2) % 4) ^^^ a ((r + 3) % 4) := by
  simp only [gfTimes_two, gfTimes_three]
  match r with
  | 0 => rfl
  | 1 =>
    exact (by ac_rfl : a 0 ^^^ xtime (a 1) ^^^ times3 (a 2) ^^^ a 3 = xtime (a 1) ^^^ times3 (a 2) ^^^ a 3 ^^^ a 0)
  | 2 =>
    exact (by ac_rfl : a 0 ^^^ a 1 ^^^ xtime (a 2) ^^^ times3 (a 3) = xtime (a 2) ^^^ times3 (a 3) ^^^ a 0 ^^^ a 1)
  | 3 =>
    exact (by ac_rfl : times3 (a 0) ^^^ a 1 ^^^ a 2 ^^^ xtime (a 3) = xtime (a 3) ^^^ times3 (a 0) ^^^ a 1 ^^^ a 2)

/-- Element `r + 4c` of the new state is row `r` of what replaces column `c`. -/
theorem byteAt_mixColumns (s : Block) (r c : Fin 4) :
    byteAt (mixColumns s) (r + 4 * c) =
      mixRow r (byteAt s (0 + 4 * c)) (byteAt s (1 + 4 * c)) (byteAt s (2 + 4 * c)) (byteAt s (3 + 4 * c)) := by
  have hrow : (r.val + 4 * c.val) % 4 = r := by omega
  have hcol : (r.val + 4 * c.val) / 4 = c := by omega
  have hbyte (v : Block) (k : Nat) (hk : k < 4) : byteAt v (k + 4 * c) = v[k + 4 * c.val] :=
    byteAt_of_lt v _ (by omega)
  rw [hbyte _ _ r.isLt, hbyte _ 0 (by decide), hbyte _ 1 (by decide), hbyte _ 2 (by decide), hbyte _ 3 (by decide)]
  simp only [mixColumns, Vector.getElem_ofFn, hrow, hcol, Nat.add_comm, Nat.zero_add]

/-- The old indices in the order of the new ones. -/
theorem shiftRows_eq (s : Block) :
    shiftRows s = #v[s[0], s[5], s[10], s[15], s[4], s[9], s[14], s[3], s[8], s[13], s[2], s[7], s[12], s[1], s[6],
      s[11]] := by
  apply Vector.ext
  intro i hi
  simp only [shiftRows, Vector.getElem_ofFn]
  interval_cases i <;> rfl

/-- Settles O33. -/
theorem rowAndColumnStepsAreTheStandards : Obligations.RowAndColumnStepsAreTheStandards :=
  ⟨shiftRows_eq, fun s r c => (byteAt_mixColumns s r c).trans (mixRow_eq_gfTimes r fun i => byteAt s (i + 4 * c))⟩

/-! ### The standard's example vectors (42_aes.md R130) -/

/-- The cipher in the three parts the examples list: the expanded key, the state after round 9, the last round. -/
theorem aes128_of_parts {key input s out : Block} {ws : List KeyWord} (hkey : keyWords key = ws)
    (hrounds : (List.range' 1 9).foldl (aesRound ws) (addRoundKey input (roundKey ws 0)) = s)
    (hlast : addRoundKey (shiftRows (subBytes s)) (roundKey ws 10) = out) : aes128 key input = out := by
  subst hkey hrounds hlast
  rfl

/-- The key of FIPS-197 appendix B, expanded: a round key per row. -/
def appendixBWords : List KeyWord :=
  [ (0x2B, 0x7E, 0x15, 0x16), (0x28, 0xAE, 0xD2, 0xA6), (0xAB, 0xF7, 0x15, 0x88), (0x09, 0xCF, 0x4F, 0x3C),
    (0xA0, 0xFA, 0xFE, 0x17), (0x88, 0x54, 0x2C, 0xB1), (0x23, 0xA3, 0x39, 0x39), (0x2A, 0x6C, 0x76, 0x05),
    (0xF2, 0xC2, 0x95, 0xF2), (0x7A, 0x96, 0xB9, 0x43), (0x59, 0x35, 0x80, 0x7A), (0x73, 0x59, 0xF6, 0x7F),
    (0x3D, 0x80, 0x47, 0x7D), (0x47, 0x16, 0xFE, 0x3E), (0x1E, 0x23, 0x7E, 0x44), (0x6D, 0x7A, 0x88, 0x3B),
    (0xEF, 0x44, 0xA5, 0x41), (0xA8, 0x52, 0x5B, 0x7F), (0xB6, 0x71, 0x25, 0x3B), (0xDB, 0x0B, 0xAD, 0x00),
    (0xD4, 0xD1, 0xC6, 0xF8), (0x7C, 0x83, 0x9D, 0x87), (0xCA, 0xF2, 0xB8, 0xBC), (0x11, 0xF9, 0x15, 0xBC),
    (0x6D, 0x88, 0xA3, 0x7A), (0x11, 0x0B, 0x3E, 0xFD), (0xDB, 0xF9, 0x86, 0x41), (0xCA, 0x00, 0x93, 0xFD),
    (0x4E, 0x54, 0xF7, 0x0E), (0x5F, 0x5F, 0xC9, 0xF3), (0x84, 0xA6, 0x4F, 0xB2), (0x4E, 0xA6, 0xDC, 0x4F),
    (0xEA, 0xD2, 0x73, 0x21), (0xB5, 0x8D, 0xBA, 0xD2), (0x31, 0x2B, 0xF5, 0x60), (0x7F, 0x8D, 0x29, 0x2F),
    (0xAC, 0x77, 0x66, 0xF3), (0x19, 0xFA, 0xDC, 0x21), (0x28, 0xD1, 0x29, 0x41), (0x57, 0x5C, 0x00, 0x6E),
    (0xD0, 0x14, 0xF9, 0xA8), (0xC9, 0xEE, 0x25, 0x89), (0xE1, 0x3F, 0x0C, 0xC8), (0xB6, 0x63, 0x0C, 0xA6) ]

/-- The key of FIPS-197 appendix C.1, expanded: a round key per row. -/
def appendixCWords : List KeyWord :=
  [ (0x00, 0x01, 0x02, 0x03), (0x04, 0x05, 0x06, 0x07), (0x08, 0x09, 0x0A, 0x0B), (0x0C, 0x0D, 0x0E, 0x0F),
    (0xD6, 0xAA, 0x74, 0xFD), (0xD2, 0xAF, 0x72, 0xFA), (0xDA, 0xA6, 0x78, 0xF1), (0xD6, 0xAB, 0x76, 0xFE),
    (0xB6, 0x92, 0xCF, 0x0B), (0x64, 0x3D, 0xBD, 0xF1), (0xBE, 0x9B, 0xC5, 0x00), (0x68, 0x30, 0xB3, 0xFE),
    (0xB6, 0xFF, 0x74, 0x4E), (0xD2, 0xC2, 0xC9, 0xBF), (0x6C, 0x59, 0x0C, 0xBF), (0x04, 0x69, 0xBF, 0x41),
    (0x47, 0xF7, 0xF7, 0xBC), (0x95, 0x35, 0x3E, 0x03), (0xF9, 0x6C, 0x32, 0xBC), (0xFD, 0x05, 0x8D, 0xFD),
    (0x3C, 0xAA, 0xA3, 0xE8), (0xA9, 0x9F, 0x9D, 0xEB), (0x50, 0xF3, 0xAF, 0x57), (0xAD, 0xF6, 0x22, 0xAA),
    (0x5E, 0x39, 0x0F, 0x7D), (0xF7, 0xA6, 0x92, 0x96), (0xA7, 0x55, 0x3D, 0xC1), (0x0A, 0xA3, 0x1F, 0x6B),
    (0x14, 0xF9, 0x70, 0x1A), (0xE3, 0x5F, 0xE2, 0x8C), (0x44, 0x0A, 0xDF, 0x4D), (0x4E, 0xA9, 0xC0, 0x26),
    (0x47, 0x43, 0x87, 0x35), (0xA4, 0x1C, 0x65, 0xB9), (0xE0, 0x16, 0xBA, 0xF4), (0xAE, 0xBF, 0x7A, 0xD2),
    (0x54, 0x99, 0x32, 0xD1), (0xF0, 0x85, 0x57, 0x68), (0x10, 0x93, 0xED, 0x9C), (0xBE, 0x2C, 0x97, 0x4E),
    (0x13, 0x11, 0x1D, 0x7F), (0xE3, 0x94, 0x4A, 0x17), (0xF3, 0x07, 0xA7, 0x8B), (0x4D, 0x2B, 0x30, 0xC5) ]

/-- The example of FIPS-197 appendix B. -/
theorem aes128_appendixB :
    aes128 #v[0x2B, 0x7E, 0x15, 0x16, 0x28, 0xAE, 0xD2, 0xA6, 0xAB, 0xF7, 0x15, 0x88, 0x09, 0xCF, 0x4F, 0x3C]
        #v[0x32, 0x43, 0xF6, 0xA8, 0x88, 0x5A, 0x30, 0x8D, 0x31, 0x31, 0x98, 0xA2, 0xE0, 0x37, 0x07, 0x34] =
      #v[0x39, 0x25, 0x84, 0x1D, 0x02, 0xDC, 0x09, 0xFB, 0xDC, 0x11, 0x85, 0x97, 0x19, 0x6A, 0x0B, 0x32] :=
  aes128_of_parts (ws := appendixBWords)
    (s := #v[0xEB, 0x40, 0xF2, 0x1E, 0x59, 0x2E, 0x38, 0x84, 0x8B, 0xA1, 0x13, 0xE7, 0x1B, 0xC3, 0x42, 0xD2])
    (by decide +kernel) (by decide +kernel) (by decide +kernel)

/-- The example of FIPS-197 appendix C.1. -/
theorem aes128_appendixC :
    aes128 #v[0x00, 0x01, 0x02, 0x03, 0x04, 0x05, 0x06, 0x07, 0x08, 0x09, 0x0A, 0x0B, 0x0C, 0x0D, 0x0E, 0x0F]
        #v[0x00, 0x11, 0x22, 0x33, 0x44, 0x55, 0x66, 0x77, 0x88, 0x99, 0xAA, 0xBB, 0xCC, 0xDD, 0xEE, 0xFF] =
      #v[0x69, 0xC4, 0xE0, 0xD8, 0x6A, 0x7B, 0x04, 0x30, 0xD8, 0xCD, 0xB7, 0x80, 0x70, 0xB4, 0xC5, 0x5A] :=
  aes128_of_parts (ws := appendixCWords)
    (s := #v[0xBD, 0x6E, 0x7C, 0x3D, 0xF2, 0xB5, 0x77, 0x9E, 0x0B, 0x61, 0x21, 0x6E, 0x8B, 0x10, 0xB6, 0x89])
    (by decide +kernel) (by decide +kernel) (by decide +kernel)

/-- Settles O31. -/
theorem cipherReproducesTheStandardsVectors : Obligations.CipherReproducesTheStandardsVectors :=
  ⟨aes128_appendixB, aes128_appendixC⟩

/-! ### AES.ENC (42_aes.md R131) -/

/-- Settles O34: the cipher of what `KEY` and `AIN` hold; storing the code in `CMD` leaves both alone. -/
theorem aesEncEncryptsAin : Obligations.AesEncEncryptsAin := fun _ =>
  ⟨_, rfl, ends_completePlain rfl rfl, keepsOthers_of_exec rfl rfl, rfl⟩

end Sys2Proof.Proofs

/-! SUPPORT. IV.BUILD, and what the IV and the MAC computed from it depend on (43_iv_builder.md R135, R136). -/
namespace Sys2Proof.Proofs

open Sys2Proof.Machine Sys2Proof.Laws

/-! ### IV.BUILD (43_iv_builder.md R136) -/

/-- IV.BUILD where a test fails: storing the code in `CMD` changes no test. -/
theorem exec_ivBuild_of_error {s : State} {k : ErrorKind} (h : ivError s = some k) :
    exec .ivBuild s = .next (raise k (s.setCmd 0xC0)) :=
  congrArg Host.Outcome.next (ivBuild_of_error ((ivError_setCmd 0xC0 s).trans h))

/-- IV.BUILD where no test fails: the IV stage in the mode `CFG` selects. -/
theorem exec_ivBuild_of_none {s : State} (h : ivError s = none) :
    exec .ivBuild s = .next (completePlain (ivStage s.cfgMode (s.setCmd 0xC0))) :=
  congrArg Host.Outcome.next (ivBuild_of_none ((ivError_setCmd 0xC0 s).trans h))

/-- What the IV stage leaves after a command's code is stored is the IV of the state before. -/
theorem isIvOf_ivStage_setCmd (m : Bool) (c : Byte) (s : State) : IsIvOf m s (ivStage m (s.setCmd c)).ain := by
  rw [ivStage_ain]
  exact isIvOf_iv m s

/-- Settles O35: the two tests in their order, each with its refusal, and the IV stage where both pass. -/
theorem ivBuildBuildsTheIv : Obligations.IvBuildBuildsTheIv := by
  intro s
  obtain ⟨hlen, herr⟩ | ⟨hlen, hmode, hchalv, herr⟩ | ⟨hlen, hchalv, herr⟩ := ivError_cases s
  case inl =>
    rw [if_pos hlen]
    exact refusesWith_of_raise .paramsOverflow (exec_ivBuild_of_error herr)
  case inr.inl =>
    rw [if_neg (Nat.not_lt_of_le hlen), if_pos ⟨hmode, hchalv⟩]
    exact refusesWith_of_raise .challengeRequired (exec_ivBuild_of_error herr)
  case inr.inr =>
    rw [if_neg (Nat.not_lt_of_le hlen), if_neg fun h => by simp [hchalv h.1] at h]
    have hexec := exec_ivBuild_of_none herr
    refine ⟨_, hexec, ends_completePlain (by simp) (by simp), keepsOthers_of_exec rfl hexec,
      isIvOf_ivStage_setCmd _ _ s, ?c1, ?c2⟩
    case c1 | c2 => simp

/-! ### What the IV depends on (43_iv_builder.md R135) -/

/-- Only the parameters below `PLEN` are in use. -/
theorem paramBytes_congr {s u : State} (hplen : s.plen = u.plen)
    (hparams : ∀ i : Fin 21, i.val < s.plen.toNat → s.params[i] = u.params[i]) : s.paramBytes = u.paramBytes := by
  apply List.ext_getElem
  · simp [State.paramBytes, hplen]
  · intro i hi _
    obtain ⟨hin, hi21⟩ : i < s.plen.toNat ∧ i < 21 := by simpa [State.paramBytes] using hi
    simpa [State.paramBytes] using hparams ⟨i, hi21⟩ hin

/-- The payload is the opcode and the parameters in use. -/
theorem payload_congr {s u : State} (hopc : s.opc = u.opc) (hparams : s.paramBytes = u.paramBytes) :
    s.payload = u.payload := by
  rw [State.payload, State.payload, hopc, hparams]

/-- A 1W IV has no challenge in it, a 2W IV no rolling code. -/
theorem iv_congr {m : Bool} (payload : List Byte) {rc rc' : Half} {chal chal' : Vector Byte 6}
    (hrc : m = false → rc = rc') (hchal : m = true → chal = chal') : iv m payload rc chal = iv m payload rc' chal' := by
  apply Vector.ext
  intro i hi
  cases m with
  | false => simp [iv_getElem, hrc rfl]
  | true => simp [iv_getElem, hchal rfl]

/-- The tests read `PLEN`, the mode, and in 2W whether a challenge is supplied. -/
theorem ivError_congr {s u : State} (hmode : s.cfgMode = u.cfgMode)
    (hchalv : s.cfgMode = true → s.cfgChalv = u.cfgChalv) (hplen : s.plen = u.plen) : ivError s = ivError u := by
  unfold ivError
  rw [hplen, ← hmode]
  cases hm : s.cfgMode with
  | false => rfl
  | true => rw [hchalv hm]

/-! ### What the MAC depends on (44_mac_keywrap.md R141) -/

/-- MAC.GEN where a test fails. -/
theorem exec_macGen_of_error {s : State} {k : ErrorKind} (h : ivError s = some k) :
    exec .macGen s = .next (raise k (s.setCmd 0xD0)) :=
  congrArg Host.Outcome.next (macGen_of_error ((ivError_setCmd 0xD0 s).trans h))

/-- MAC.GEN where no test fails: the MAC computation in the mode `CFG` selects. -/
theorem exec_macGen_of_none {s : State} (h : ivError s = none) :
    exec .macGen s = .next (completePlain (macStage s.cfgMode (s.setCmd 0xD0))) :=
  congrArg Host.Outcome.next (macGen_of_none ((ivError_setCmd 0xD0 s).trans h))

/-- Key and IV fix the ciphertext, hence the MAC. -/
theorem macStage_congr {m : Bool} {s u : State} (hkey : s.key = u.key)
    (hiv : iv m s.payload s.rc s.chal = iv m u.payload u.rc u.chal) :
    (macStage m s).macc = (macStage m u).macc ∧ (macStage m s).aout = (macStage m u).aout ∧
      (macStage m s).ain = (macStage m u).ain := by
  simp [hkey, hiv]

/-- Settles O39: the two states fail the same test, or pass both and have the same IV under the same key. -/
theorem macDependsOnlyOnItsInputs : Obligations.MacDependsOnlyOnItsInputs := by
  intro s u hmode hchalv hkey hopc hplen hparams hrc hchal
  have htests := ivError_congr hmode hchalv hplen
  cases herr : ivError s with
  | some k =>
    refine ⟨_, _, exec_macGen_of_error herr, exec_macGen_of_error (htests.symm.trans herr), rfl, ?_⟩
    exact fun h0 => absurd h0 (errorCode_ne_zero k)
  | none =>
    have hrc' : s.cfgMode = false → s.rc = u.rc := fun h => congrArg₂ fromLe16 (hrc h).1 (hrc h).2
    have hiv : iv s.cfgMode s.payload s.rc s.chal = iv s.cfgMode u.payload u.rc u.chal := by
      rw [payload_congr hopc (paramBytes_congr hplen hparams)]
      exact iv_congr u.payload hrc' hchal
    refine ⟨_, _, exec_macGen_of_none herr, exec_macGen_of_none (htests.symm.trans herr), rfl, fun _ => ?_⟩
    rw [← hmode]
    exact macStage_congr (s := s.setCmd 0xD0) (u := u.setCmd 0xD0) hkey hiv

end Sys2Proof.Proofs


/-! SUPPORT. The truncated MAC, the comparison, MAC.GEN, MAC.VFY and the key-wrap commands (44_mac_keywrap.md). -/
namespace Sys2Proof.Proofs

open Sys2Proof.Machine Sys2Proof.Laws

/-! ### The comparison (44_mac_keywrap.md R142) -/

/-- An OR-accumulation of differences ends in zero exactly if it starts from zero and every pair is equal. -/
theorem foldl_or_xor_eq_zero_iff {ι : Type} (f g : ι → Byte) (l : List ι) (d : Byte) :
    l.foldl (fun d i => d ||| (f i ^^^ g i)) d = 0#8 ↔ d = 0#8 ∧ ∀ i ∈ l, f i = g i := by
  induction l generalizing d with
  | nil => simp
  | cons i l ih =>
    rw [List.foldl_cons, ih, BitVec.or_eq_zero_iff, BitVec.xor_eq_zero_iff, List.forall_mem_cons, and_assoc]

/-- Settles O38: the accumulator runs over all six indices. -/
theorem comparisonAcceptsExactlyEqualMacs : Obligations.ComparisonAcceptsExactlyEqualMacs := by
  intro a b
  calc ctEq6 a b = true
    _ ↔ 0#8 = 0#8 ∧ ∀ i ∈ List.finRange 6, a[i] = b[i] :=
        beq_iff_eq.trans (foldl_or_xor_eq_zero_iff (a[·]) (b[·]) _ _)
    _ ↔ ∀ i : Fin 6, a[i] = b[i] := by simp only [List.mem_finRange, true_and, forall_const]

/-- The comparison as the truth value it stands for. -/
theorem ctEq6_eq_decide (a b : Vector Byte 6) : ctEq6 a b = decide (∀ i : Fin 6, a[i] = b[i]) :=
  Bool.eq_iff_iff.mpr ((comparisonAcceptsExactlyEqualMacs a b).trans decide_eq_true_iff.symm)

/-! ### MAC.GEN and MAC.VFY (44_mac_keywrap.md R141, R143) -/

/-- A command with the tests of IV.BUILD refuses as IV.BUILD does (43_iv_builder.md R136); what is left to show is the
case in which both tests pass. -/
theorem refuses_as_ivBuild {i : Instr} {c : Byte} {s : State} {P : Prop}
    (herror : ∀ k, ivError s = some k → exec i s = .next (raise k (s.setCmd c))) (hpass : ivError s = none → P) :
    if s.plen.toNat > 21 then RefusesWith i c 0x07 s
    else if s.cfgMode = true ∧ s.cfgChalv = false then RefusesWith i c 0x06 s
    else P := by
  obtain ⟨hlen, herr⟩ | ⟨hlen, hmode, hchalv, herr⟩ | ⟨hlen, hchalv, herr⟩ := ivError_cases s
  case inl =>
    rw [if_pos hlen]
    exact refusesWith_of_raise .paramsOverflow (herror _ herr)
  case inr.inl =>
    rw [if_neg (Nat.not_lt_of_le hlen), if_pos ⟨hmode, hchalv⟩]
    exact refusesWith_of_raise .challengeRequired (herror _ herr)
  case inr.inr =>
    rw [if_neg (Nat.not_lt_of_le hlen), if_neg fun h => by simp [hchalv h.1] at h]
    exact hpass herr

/-- What the MAC computation leaves after a command's code is stored: the IV of the state before, its checksum in the
accumulators, the IV's cipher under `KEY`, and the first six bytes of that. -/
theorem macStage_setCmd_results (m : Bool) (c : Byte) (s : State) :
    IsIvOf m s (macStage m (s.setCmd c)).ain ∧
      (macStage m (s.setCmd c)).c1 = (macStage m (s.setCmd c)).ain[8] ∧
      (macStage m (s.setCmd c)).c2 = (macStage m (s.setCmd c)).ain[9] ∧
      (macStage m (s.setCmd c)).aout = aes128 s.key (macStage m (s.setCmd c)).ain ∧
      ∀ j : Fin 6, (macStage m (s.setCmd c)).macc[j] = (macStage m (s.setCmd c)).aout[j.val] := by
  refine ⟨?iv, ?c1, ?c2, ?aout, fun j => ?macc⟩
  case iv =>
    rw [macStage_ain]
    exact isIvOf_iv m s
  case macc =>
    rw [macStage_macc, macStage_aout]
    exact macOf_getElem _ j.val j.isLt
  case c1 | c2 | aout => simp

/-- Settles O36: the refusals of IV.BUILD, and the MAC computation where its tests pass. -/
theorem macGenTruncatesTheCiphertext : Obligations.MacGenTruncatesTheCiphertext := fun s =>
  refuses_as_ivBuild (fun _ => exec_macGen_of_error) fun herr =>
    have hexec := exec_macGen_of_none herr
    ⟨_, hexec, ends_completePlain (by simp) (by simp), keepsOthers_of_exec rfl hexec,
      macStage_setCmd_results s.cfgMode 0xD0 s⟩

/-- MAC.VFY where a test fails. -/
theorem exec_macVfy_of_error {s : State} {k : ErrorKind} (h : ivError s = some k) :
    exec .macVfy s = .next (raise k (s.setCmd 0xD1)) :=
  congrArg Host.Outcome.next (macVfy_of_error ((ivError_setCmd 0xD1 s).trans h))

/-- MAC.VFY where no test fails: the MAC computation, and the comparison with the register `MAC` as its result. -/
theorem exec_macVfy_of_none {s : State} (h : ivError s = none) :
    exec .macVfy s = .next (complete (((macStage s.cfgMode (s.setCmd 0xD1)).setMatch
      (ctEq6 (macStage s.cfgMode (s.setCmd 0xD1)).macc s.mac)).setTrunc false)) := by
  have hbody := macVfy_of_none ((ivError_setCmd 0xD1 s).trans h)
  rw [macStage_mac] at hbody
  exact congrArg Host.Outcome.next hbody

/-- Settles O37: as MAC.GEN, with the comparison of R142 as the result. -/
theorem macVfyComparesAllSixBytes : Obligations.MacVfyComparesAllSixBytes := fun s =>
  refuses_as_ivBuild (fun _ => exec_macVfy_of_error) fun herr => by
    have hexec := exec_macVfy_of_none herr
    obtain ⟨hiv, hc1, hc2, haout, hmacc⟩ := macStage_setCmd_results s.cfgMode 0xD1 s
    refine ⟨_, hexec, keepsOthers_of_exec rfl hexec, hiv, hc1, hc2, haout, hmacc, ?ends⟩
    rw [← ctEq6_eq_decide]
    exact ends_result (by simp) (by simp)

/-! ### Key wrap (44_mac_keywrap.md R144 to R147) -/

theorem kwIv1W_getElem (node : Vector Byte 3) (i : Nat) (h : i < 16) : (kwIv1W node)[i] = byteAt node (i % 3) := by
  simp [kwIv1W]

theorem kwIv2W_getElem (chal : Vector Byte 6) (i : Nat) (h : i < 16) :
    (kwIv2W chal)[i] = if i < 10 then 0x55 else byteAt chal (i - 10) := by
  simp [kwIv2W, ivPad]

theorem xorBlock_getElem (a b : Block) (i : Nat) (h : i < 16) : (xorBlock a b)[i] = a[i] ^^^ b[i] := by
  simp [xorBlock]

/-- Masking twice with the same block undoes the mask. -/
theorem xorBlock_xorBlock_cancel (a b : Block) : xorBlock (xorBlock a b) b = a := by
  apply Vector.ext
  intro i hi
  rw [xorBlock_getElem, xorBlock_getElem, BitVec.xor_assoc, BitVec.xor_self, BitVec.xor_zero]

theorem exec_kw1W (s : State) :
    exec .kw1W s = .next (completePlain (wrapStage (kwIv1W s.node) (s.setCmd 0xE0))) := rfl

/-- KW.2W with a challenge, in either mode. -/
theorem exec_kw2W_of_chalv {s : State} (h : s.cfgChalv = true) :
    exec .kw2W s = .next (completePlain (wrapStage (kwIv2W s.chal) (s.setCmd 0xE1))) :=
  congrArg Host.Outcome.next (kw2W_of_chalv (s := s.setCmd 0xE1) h)

theorem exec_kw2W_of_not_chalv {s : State} (h : s.cfgChalv = false) :
    exec .kw2W s = .next (raise .challengeRequired (s.setCmd 0xE1)) :=
  congrArg Host.Outcome.next (kw2W_of_not_chalv (s := s.setCmd 0xE1) h)

/-- A command that wraps with `block` and completes leaves the block in `AIN`, its cipher under the transfer key in
`AOUT`, and `KEY` masked with that in `WKEY`. -/
theorem wrap_results {i : Instr} {c : Byte} {s : State} {block : Block} (hi : isCommand i = true)
    (hexec : exec i s = .next (completePlain (wrapStage block (s.setCmd c)))) :
    ∃ t, exec i s = .next t ∧ Ends c 0x00 false false s t ∧ KeepsOthers i s t ∧ t.ain = block ∧
      t.aout = aes128 transferKey t.ain ∧ ∀ j : Fin 16, t.wkey[j] = s.key[j] ^^^ t.aout[j] := by
  refine ⟨_, hexec, ends_completePlain (by simp) (by simp), keepsOthers_of_exec hi hexec, ?ain, ?aout, fun j => ?wkey⟩
  case wkey => simp [xorBlock_getElem]
  case ain | aout => simp

/-- Settles O40: the block wrapped with is the repeated node address. -/
theorem keyWrapOneWayMasksTheKey : Obligations.KeyWrapOneWayMasksTheKey := by
  intro s
  obtain ⟨t, hexec, hends, hkeeps, hain, haout, hwkey⟩ := wrap_results rfl (exec_kw1W s)
  refine ⟨t, hexec, hends, hkeeps, fun i => ?_, haout, hwkey⟩
  rw [hain]
  exact kwIv1W_getElem s.node i i.isLt

/-- Settles O41: the refusal, or the block of padding and challenge. -/
theorem keyWrapTwoWayMasksTheKey : Obligations.KeyWrapTwoWayMasksTheKey := by
  intro s
  split
  case isTrue h => exact refusesWith_of_raise .challengeRequired (exec_kw2W_of_not_chalv h)
  case isFalse h =>
    obtain ⟨t, hexec, hends, hkeeps, hain, haout, hwkey⟩ :=
      wrap_results rfl (exec_kw2W_of_chalv (Bool.eq_true_of_not_eq_false h))
    refine ⟨t, hexec, hends, hkeeps, fun i => ?padding, fun j => ?challenge, haout, hwkey⟩
    case padding => rw [hain, kwIv2W_getElem, if_pos i.isLt]
    case challenge =>
      rw [hain, kwIv2W_getElem, if_neg (by omega), Nat.add_sub_cancel_left, byteAt_of_lt _ _ j.isLt]
      rfl

/-- Settles O42: the first wrap leaves `NODE`, `CHAL` and `CFG` alone, so the second wraps with the same block. -/
theorem wrappingTwiceGivesTheKeyBack : Obligations.WrappingTwiceGivesTheKeyBack := by
  intro s t u
  refine ⟨?oneWay, ?twoWay⟩
  case oneWay =>
    intro hfirst hsecond
    cases hfirst.symm.trans (exec_kw1W s)
    cases hsecond.symm.trans (exec_kw1W _)
    simp [xorBlock_xorBlock_cancel]
  case twoWay =>
    intro hchalv hfirst hsecond
    cases hfirst.symm.trans (exec_kw2W_of_chalv hchalv)
    cases hsecond.symm.trans (exec_kw2W_of_chalv hchalv)
    simp [xorBlock_xorBlock_cancel]

end Sys2Proof.Proofs

/-! SUPPORT. The refusals of the frame commands: their tests in numbers, and what a refusal leaves (45_frame_codec.md
R150, R153, R155, 60_exceptions.md R186). -/
namespace Sys2Proof.Proofs

open Sys2Proof.Machine Sys2Proof.Laws

/-! ### FRM.BUILD (45_frame_codec.md R150) -/

/-- The tests of FRM.BUILD in numbers. -/
theorem buildError_eq (s : State) :
    buildError s =
      if s.initFlag = false then some .notInitialized
      else if s.plen.toNat > 21 then some .paramsOverflow
      else if 17 + s.plen.toNat + rollingLength s.cfgMode > 32 then some .bufferTooSmall
      else if s.cfgMode = true ∧ s.cfgChalv = false then some .challengeRequired
      else none := by
  simp only [buildError, totalLength_eq, Bool.not_eq_true', Bool.and_eq_true]

/-- FRM.BUILD where a test fails: storing the code in `CMD` changes no test. -/
theorem exec_frmBuild_of_error {s : State} {k : ErrorKind} (h : buildError s = some k) :
    exec .frmBuild s = .next (raise k (s.setCmd 0xF0)) :=
  congrArg Host.Outcome.next (frmBuild_of_error ((buildError_setCmd 0xF0 s).trans h))

/-- FRM.BUILD where no test fails: the fields are computed and serialized, in the mode `CFG` selects. -/
theorem exec_frmBuild_of_none {s : State} (h : buildError s = none) :
    exec .frmBuild s = .next (completePlain (serialize s.cfgMode s.plen.toNat (totalLength s.cfgMode s.plen.toNat)
      (fillFrame s.cfgMode (totalLength s.cfgMode s.plen.toNat) (s.setCmd 0xF0)))) :=
  congrArg Host.Outcome.next (frmBuild_of_none ((buildError_setCmd 0xF0 s).trans h))

/-- Settles O44: each clause is the first of the tests that fails. -/
theorem frmBuildRefusesInOrder : Obligations.FrmBuildRefusesInOrder := by
  intro s
  have refuses {k : ErrorKind} (h : buildError s = some k) : RefusesWith .frmBuild 0xF0 (errorCode k) s :=
    refusesWith_of_raise k (exec_frmBuild_of_error h)
  refine ⟨fun hinit => refuses (k := .notInitialized) ?_, fun hinit hplen => refuses (k := .paramsOverflow) ?_,
    fun hinit hplen hlong => refuses (k := .bufferTooSmall) ?_,
    fun hinit hlong hmode hchalv => refuses (k := .challengeRequired) ?_⟩ <;> rw [buildError_eq]
  · rw [if_pos hinit]
  · rw [if_neg (by simp [hinit]), if_pos hplen]
  · rw [if_neg (by simp [hinit]), if_neg (by omega), if_pos hlong]
  · rw [if_neg (by simp [hinit]), if_neg (by omega), if_neg (by omega), if_pos ⟨hmode, hchalv⟩]

/-! ### FRM.SER (45_frame_codec.md R153) -/

/-- The tests of FRM.SER in numbers. -/
theorem serError_eq (s : State) :
    serError s =
      if s.initFlag = false then some .notInitialized
      else if s.plen.toNat > 21 then some .paramsOverflow
      else if 17 + s.plen.toNat + rollingLength (s.ctrl0.getLsbD 5) > 32 then some .bufferTooSmall
      else if s.ctrl0.toNat % 32 + 11 ≠ 17 + s.plen.toNat + rollingLength (s.ctrl0.getLsbD 5) then
        some .lengthFieldMismatch
      else none := by
  simp only [serError, totalLength_eq, statedLength_eq, modeOf_eq, Bool.not_eq_true']

/-- FRM.SER where a test fails. -/
theorem exec_frmSer_of_error {s : State} {k : ErrorKind} (h : serError s = some k) :
    exec .frmSer s = .next (raise k (s.setCmd 0xF1)) :=
  congrArg Host.Outcome.next (frmSer_of_error ((serError_setCmd 0xF1 s).trans h))

/-- FRM.SER where no test fails: the fields are serialized as they are, in the mode of `CTRL0`. -/
theorem exec_frmSer_of_none {s : State} (h : serError s = none) :
    exec .frmSer s = .next (completePlain (serialize (modeOf s.ctrl0) s.plen.toNat
      (totalLength (modeOf s.ctrl0) s.plen.toNat) (s.setCmd 0xF1))) :=
  congrArg Host.Outcome.next (frmSer_of_none ((serError_setCmd 0xF1 s).trans h))

/-- Settles O46: each clause is the first of the tests that fails. -/
theorem frmSerRefusesInOrder : Obligations.FrmSerRefusesInOrder := by
  intro s
  have refuses {k : ErrorKind} (h : serError s = some k) : RefusesWith .frmSer 0xF1 (errorCode k) s :=
    refusesWith_of_raise k (exec_frmSer_of_error h)
  refine ⟨fun hinit => refuses (k := .notInitialized) ?_, fun hinit hplen => refuses (k := .paramsOverflow) ?_,
    fun hinit hplen hlong => refuses (k := .bufferTooSmall) ?_,
    fun hinit hlong hfield => refuses (k := .lengthFieldMismatch) ?_⟩ <;> rw [serError_eq]
  · rw [if_pos hinit]
  · rw [if_neg (by simp [hinit]), if_pos hplen]
  · rw [if_neg (by simp [hinit]), if_neg (by omega), if_pos hlong]
  · rw [if_neg (by simp [hinit]), if_neg (by omega), if_neg (by omega), if_pos hfield]

/-! ### FRM.PARSE and FRM.VALID up to the parse (45_frame_codec.md R155, R157) -/

/-- The error with which FRM.PARSE and FRM.VALID stop before a field is written: the block is not armed, or the buffer
does not parse. -/
def armedParseError (s : State) : Option ErrorKind :=
  if s.initFlag = false then some .notInitialized else parseError s

/-- The tests of `parse()` on an armed block in numbers. -/
theorem armedParseError_eq (s : State) :
    armedParseError s =
      if s.initFlag = false then some .notInitialized
      else if s.buflen.toNat < 11 then some .frameTooShort
      else if (byteAt s.buf 0).toNat % 32 + 11 > 32 then some .frameTooLong
      else if s.buflen.toNat < (byteAt s.buf 0).toNat % 32 + 11 then some .lengthFieldMismatch
      else if (byteAt s.buf 0).toNat % 32 + 11 < 17 + rollingLength ((byteAt s.buf 0).getLsbD 5) then
        some .lengthFieldMismatch
      else none := by
  simp only [armedParseError, parseError, totalLength_eq, statedLength_eq, modeOf_eq, Nat.add_zero]

theorem armedParseError_eq_none_iff (s : State) :
    armedParseError s = none ↔ s.initFlag = true ∧ parseError s = none := by
  unfold armedParseError
  cases s.initFlag <;> simp

/-- FRM.PARSE where a test fails. -/
theorem exec_frmParse_of_error {s : State} {k : ErrorKind} (h : armedParseError s = some k) :
    exec .frmParse s = .next (raise k (s.setCmd 0xF2)) := by
  unfold armedParseError at h
  refine congrArg Host.Outcome.next ?_
  split at h
  case isTrue hinit =>
    cases h
    exact frmParse_of_not_init (s := s.setCmd 0xF2) hinit
  case isFalse hinit => exact frmParse_of_error (s := s.setCmd 0xF2) (Bool.eq_true_of_not_eq_false hinit) h

/-- FRM.VALID where a test of the parse fails. -/
theorem exec_frmValid_of_error {s : State} {k : ErrorKind} (h : armedParseError s = some k) :
    exec .frmValid s = .next (raise k (s.setCmd 0xF3)) := by
  unfold armedParseError at h
  refine congrArg Host.Outcome.next ?_
  split at h
  case isTrue hinit =>
    cases h
    exact frmValid_of_not_init (s := s.setCmd 0xF3) hinit
  case isFalse hinit => exact frmValid_of_error (s := s.setCmd 0xF3) (Bool.eq_true_of_not_eq_false hinit) h

/-- FRM.PARSE where no test fails: the fields are loaded. -/
theorem exec_frmParse_of_none {s : State} (h : armedParseError s = none) :
    exec .frmParse s = .next (complete ((loadFrame (s.setCmd 0xF2)).setMatch false)) :=
  have ⟨hinit, hparse⟩ := (armedParseError_eq_none_iff s).mp h
  congrArg Host.Outcome.next (frmParse_of_none (s := s.setCmd 0xF2) hinit hparse)

/-- FRM.VALID where no test of the parse fails: the loaded frame is validated. -/
theorem exec_frmValid_of_none {s : State} (h : armedParseError s = none) :
    exec .frmValid s = .next (validateFrame (loadFrame (s.setCmd 0xF3))) :=
  have ⟨hinit, hparse⟩ := (armedParseError_eq_none_iff s).mp h
  congrArg Host.Outcome.next (frmValid_of_none (s := s.setCmd 0xF3) hinit hparse)

/-- FRM.PARSE and FRM.VALID refuse alike where a test of the parse fails. -/
theorem refusesWith_of_armedParseError {s : State} {i : Instr} {c : Byte}
    (hi : (i = .frmParse ∧ c = 0xF2) ∨ (i = .frmValid ∧ c = 0xF3)) (k : ErrorKind)
    (h : armedParseError s = some k) : RefusesWith i c (errorCode k) s := by
  obtain ⟨rfl, rfl⟩ | ⟨rfl, rfl⟩ := hi
  · exact refusesWith_of_raise k (exec_frmParse_of_error h)
  · exact refusesWith_of_raise k (exec_frmValid_of_error h)

/-- Settles O48: the tests of the parse in numbers are the statement's. -/
theorem parseRefusesInOrder : Obligations.ParseRefusesInOrder := by
  intro s i c hi
  have refuses := refusesWith_of_armedParseError (s := s) hi
  rw [armedParseError_eq] at refuses
  split_ifs at refuses ⊢
  · exact refuses .notInitialized rfl
  · exact refuses .frameTooShort rfl
  · exact refuses .frameTooLong rfl
  · exact refuses .lengthFieldMismatch rfl
  · exact refuses .lengthFieldMismatch rfl

end Sys2Proof.Proofs

/-! SUPPORT. Building and serializing: the frame left in `BUF`, and the fields FRM.BUILD computes for it
(45_frame_codec.md R150, R153, R154). -/
namespace Sys2Proof.Proofs

open Sys2Proof.Machine Sys2Proof.Laws

/-! ### The frame under updates that leave its registers alone -/

/-- What FRM.VALID may write besides what FRM.PARSE loads: `CRC`, the registers of the MAC computation, and the
ending. -/
def validationWrites (r : Reg) : Bool := endingReg r || (commandWrites .frmValid r && !commandWrites .frmParse r)

/-- An ending stays within what validation writes. -/
theorem keeps_validationWrites_of_ending {s t : State} (h : Keeps endingReg s t) : Keeps validationWrites s t :=
  Keeps_mono h fun r hr => by simp [validationWrites, hr]

/-- Validation writes no register a frame is held in. -/
theorem holdsFrame_of_keeps {m : Bool} {n : Nat} {t u : State} (h : t.HoldsFrame m n)
    (hk : Keeps validationWrites t u) : u.HoldsFrame m n := by
  have hget := hk.1
  have hbuf : u.buf = t.buf := Vector.ext fun i hi => hget (.buf ⟨i, hi⟩) rfl
  have hplen : u.plen = t.plen := hget .plen rfl
  have htlen : u.tlen = t.tlen := hget .tlen rfl
  constructor
  case ctrl0 => exact (hbuf ▸ h.ctrl0).trans (hget .ctrl0 rfl).symm
  case ctrl1 => exact (hbuf ▸ h.ctrl1).trans (hget .ctrl1 rfl).symm
  case dst => exact fun i => (hbuf ▸ h.dst i).trans (hget (.dst i) rfl).symm
  case src => exact fun i => (hbuf ▸ h.src i).trans (hget (.src i) rfl).symm
  case opc => exact (hbuf ▸ h.opc).trans (hget .opc rfl).symm
  case plen => exact hplen ▸ h.plen
  case params => exact fun i hi => (hbuf ▸ h.params i hi).trans (hget (.params i) rfl).symm
  case rc =>
    intro hm
    obtain ⟨hlow, hhigh⟩ := h.rc hm
    exact ⟨(hbuf ▸ hlow).trans (hget .rcl rfl).symm, (hbuf ▸ hhigh).trans (hget .rch rfl).symm⟩
  case mac => exact fun j => (hbuf ▸ h.mac j).trans (hget (.mac j) rfl).symm
  case fcrcl => exact (hbuf ▸ h.fcrcl).trans (hget .fcrcl rfl).symm
  case fcrch => exact (hbuf ▸ h.fcrch).trans (hget .fcrch rfl).symm
  case tlen => exact htlen ▸ h.tlen

/-! ### Serializing (45_frame_codec.md R154) -/

/-- What a command that serializes and completes leaves of a frame that fits: the frame and its CRC, and
`BUF[tl..31]` as before. -/
theorem serialize_results {m : Bool} {p : Nat} {s t : State} (hplen : s.plen.toNat = p) (hp : p ≤ 21)
    (hl : 17 + p + rollingLength m ≤ 32) (ht : t = completePlain (serialize m p (totalLength m p) s)) :
    t.HoldsFrame m p ∧ t.crc = crc16 (t.buf.toList.take (15 + p + rollingLength m)) ∧ t.fcrc = t.crc ∧
      t.buflen = t.tlen ∧ ∀ i : Fin 32, 17 + p + rollingLength m ≤ i.val → t.buf[i] = s.buf[i] := by
  subst ht
  refine ⟨?frame, ?crc, ?fcrc, ?buflen, fun i hi => ?rest⟩
  case frame =>
    exact holdsFrame_of_keeps (holdsFrame_serialize m p s hplen hp hl)
      (keeps_validationWrites_of_ending (keeps_completePlain _))
  case crc =>
    rw [completePlain_buf, take_serialize_buf m p _ s hp hl]
    simp [State.crc]
  case rest =>
    rw [completePlain_buf]
    exact serialize_buf_rest m p _ i s hp i.isLt hi
  case fcrc | buflen => simp [State.fcrc, State.crc]

/-- Settles O45: the fields serialized are those the command found. -/
theorem frmSerSerializesTheFields : Obligations.FrmSerSerializesTheFields := by
  intro s hinit hplen hl hfield
  have hpass : serError s = none := by
    rw [serError_eq, if_neg (by simp [hinit]), if_neg (by omega), if_neg (by omega), if_neg (by omega)]
  have hexec := exec_frmSer_of_none hpass
  exact ⟨_, hexec, ends_completePlain (by simp) (by simp), keepsOthers_of_exec rfl hexec,
    serialize_results (s := s.setCmd 0xF1) rfl hplen hl rfl⟩

/-! ### The fields FRM.BUILD computes (45_frame_codec.md R150) -/

/-- The control bytes, the IV and the MAC FRM.BUILD leaves for a frame with `p` parameter bytes: serializing keeps what
was computed for it. -/
theorem fillFrame_results {m : Bool} {p : Nat} {c : Byte} {s t : State} (hl : 17 + p + rollingLength m ≤ 32)
    (ht : t = completePlain (serialize m p (totalLength m p) (fillFrame m (totalLength m p) (s.setCmd c)))) :
    t.ctrl0.toNat = (if m then 32 else 0) + (6 + p + rollingLength m) ∧ t.ctrl1 = 0x00 ∧ IsIvOf m s t.ain ∧
      t.c1 = t.ain[8] ∧ t.c2 = t.ain[9] ∧ t.aout = aes128 s.key t.ain ∧
      (∀ j : Fin 6, t.macc[j] = t.aout[j.val]) ∧ t.mac = t.macc := by
  subst ht
  refine ⟨?ctrl0, ?ctrl1, ?iv, ?c1, ?c2, ?aout, fun j => ?macc, ?mac⟩
  case ctrl0 =>
    rw [completePlain_ctrl0, serialize_ctrl0, fillFrame_ctrl0, totalLength_eq, builtCtrl0_toNat m _ (by omega) hl]
    omega
  case iv =>
    rw [completePlain_ain, serialize_ain, fillFrame_ain]
    exact isIvOf_iv m s
  case macc =>
    simp only [completePlain_macc, serialize_macc, fillFrame_macc, completePlain_aout, serialize_aout, fillFrame_aout]
    exact macOf_getElem _ j.val j.isLt
  case ctrl1 | c1 | c2 | aout | mac => simp

/-- Settles O43: the fields are computed, then serialized. -/
theorem frmBuildBuildsTheFrame : Obligations.FrmBuildBuildsTheFrame := by
  intro s hinit hplen hl hchalv
  have hpass : buildError s = none := by
    rw [buildError_eq, if_neg (by simp [hinit]), if_neg (by omega), if_neg (by omega),
      if_neg fun h => by simp [hchalv h.1] at h]
  have hexec := exec_frmBuild_of_none hpass
  obtain ⟨hctrl0, hctrl1, hiv, hc1, hc2, haout, hmacc, hmac⟩ := fillFrame_results (s := s) (c := 0xF0) hl rfl
  obtain ⟨hframe, hcrc, hfcrc, hbuflen, hrest⟩ := serialize_results (m := s.cfgMode)
    (s := fillFrame s.cfgMode (totalLength s.cfgMode s.plen.toNat) (s.setCmd 0xF0)) (by simp) hplen hl rfl
  rw [fillFrame_buf] at hrest
  refine ⟨_, hexec, ends_completePlain (by simp) (by simp), keepsOthers_of_exec rfl hexec, hctrl0, hctrl1, hiv, hc1,
    hc2, haout, hmacc, hmac, hframe, hcrc, hfcrc, hbuflen, ?tlen, hrest⟩
  case tlen =>
    rw [hframe.tlen, hctrl0]
    split <;> omega

end Sys2Proof.Proofs

/-! SUPPORT. Parsing: the fields FRM.PARSE loads, and how the commands that keep the parse's `STATUS.TRUNC` end
(45_frame_codec.md R155, 60_exceptions.md R184). -/
namespace Sys2Proof.Proofs

open Sys2Proof.Machine Sys2Proof.Laws

/-- FRM.PARSE and FRM.VALID write `STATUS.TRUNC` when they parse, and `ERR` and `STATUS.MATCH` at their end. -/
theorem ends_keepTrunc {c e : Byte} {m v : Bool} {s t : State} (hc : t.cmd = c) (hs : t.status = withBit s.status 2 v) :
    Ends c e m v s ((t.setErr e).setMatch m) := by
  refine ⟨hc, rfl, ?_, ?_, fun k h1 h2 => ?_⟩
  · rw [setMatch_matchFlag]
  · simp [State.truncFlag, hs, withBit_getElem]
  · simp [hs, withBit_getLsbD, h1, h2]

/-- A buffer that passes the tests of the parse has room for the frame its first byte states. -/
theorem stated_bounds {s : State} (h : armedParseError s = none) :
    17 + rollingLength (modeOf (byteAt s.buf 0)) ≤ statedLength (byteAt s.buf 0) ∧
      statedLength (byteAt s.buf 0) ≤ 32 ∧ statedLength (byteAt s.buf 0) ≤ s.buflen.toNat := by
  obtain ⟨_, hparse⟩ := (armedParseError_eq_none_iff s).mp h
  obtain ⟨k, _, hk, _⟩ | ⟨_, _, hbounds⟩ := parse_cases s
  · simp [hk] at hparse
  · exact hbounds

/-- What FRM.PARSE leaves of a buffer that parses: the frame of the layout, and the rest of `PARAMS` and the rolling
code registers of a 2W frame as before. -/
theorem frmParse_results {s p : State} (h : armedParseError s = none)
    (hp : p = complete ((loadFrame (s.setCmd 0xF2)).setMatch false)) :
    Ends 0xF2 0x00 false (decide (statedLength (byteAt s.buf 0) < s.buflen.toNat)) s p ∧
      p.HoldsFrame (modeOf (byteAt s.buf 0)) (statedParams (byteAt s.buf 0)) ∧
      (∀ i : Fin 21, p.plen.toNat ≤ i.val → p.params[i] = s.params[i]) ∧
      (modeOf (byteAt s.buf 0) = true → p.rcl = s.rcl ∧ p.rch = s.rch) := by
  subst hp
  have hparse : parseError (s.setCmd 0xF2) = none := ((armedParseError_eq_none_iff s).mp h).2
  have hframe := holdsFrame_of_keeps (holdsFrame_loadFrame (s.setCmd 0xF2) hparse) (keeps_validationWrites_of_ending
    (Keeps_trans (keeps_setMatch false _) (keeps_complete _)))
  refine ⟨ends_keepTrunc (by simp) (by simp), hframe, fun i hi => ?params, fun hm => ?rolling⟩
  case params =>
    rw [hframe.plen] at hi
    exact loadFrame_params_rest (s.setCmd 0xF2) i i.isLt hi
  case rolling => simp [hm]

/-- Settles O47: the statement's hypotheses are the tests of the parse, in numbers. -/
theorem frmParseLoadsTheFields : Obligations.FrmParseLoadsTheFields := by
  intro s hinit hmin hmax hlen hparams
  have hpass : armedParseError s = none := by
    rw [armedParseError_eq, if_neg (by simp [hinit]), if_neg (by omega), if_neg (by omega), if_neg (by omega),
      if_neg (by omega)]
  have hexec := exec_frmParse_of_none hpass
  obtain ⟨hends, hframe, hrest, hrolling⟩ := frmParse_results hpass rfl
  rw [statedLength_eq] at hends
  rw [statedParams_eq] at hframe
  exact ⟨_, hexec, keepsOthers_of_exec rfl hexec, hends, hframe, hrest, hrolling⟩

end Sys2Proof.Proofs

/-! SUPPORT. Validating: the tests of FRM.VALID on the frame FRM.PARSE loads, what each outcome leaves, and when a frame
is accepted (45_frame_codec.md R157). -/
namespace Sys2Proof.Proofs

open Sys2Proof.Machine Sys2Proof.Laws

/-! ### The parsed frame -/

/-- The state in which FRM.VALID makes its tests, where FRM.PARSE issued in `s` leaves `p`: the same fields and
`STATUS.TRUNC`, and no ending yet. -/
def validated (s p : State) : State := { p with cmd := 0xF3, status := withBit s.status 2 p.truncFlag, err := s.err }

theorem keeps_validated (s p : State) : Keeps endingReg p (validated s p) := keeps_endingReg_update p _ _ _

/-- FRM.PARSE that completes found no error. -/
theorem frmParse_completes {s p : State} (h : exec .frmParse s = .next p) (h0 : p.err = 0x00) :
    armedParseError s = none ∧ p = complete ((loadFrame (s.setCmd 0xF2)).setMatch false) := by
  cases he : armedParseError s with
  | some k =>
    cases h.symm.trans (exec_frmParse_of_error he)
    exact absurd h0 (errorCode_ne_zero k)
  | none =>
    cases h.symm.trans (exec_frmParse_of_none he)
    exact ⟨rfl, rfl⟩

/-- After a parse that succeeds FRM.VALID makes its tests on the frame FRM.PARSE loads. -/
theorem exec_frmValid_of_parsed {s p : State} (h : exec .frmParse s = .next p) (h0 : p.err = 0x00) :
    exec .frmValid s = .next (validateFrame (validated s p)) := by
  obtain ⟨hpass, rfl⟩ := frmParse_completes h h0
  obtain ⟨⟨_, _, _, htrunc, _⟩, _⟩ := frmParse_results hpass rfl
  rw [exec_frmValid_of_none hpass, validated, htrunc]
  rfl

/-- FRM.PARSE leaves the key, `CFG`, the challenge and the buffer alone. -/
theorem frmParse_keeps_inputs {s p : State} (h : exec .frmParse s = .next p) :
    p.key = s.key ∧ p.cfg = s.cfg ∧ p.chal = s.chal ∧ p.buf = s.buf := by
  obtain ⟨hget, _⟩ := keepsOthers_of_exec rfl h
  exact ⟨Vector.ext fun i hi => hget (.key ⟨i, hi⟩) rfl, hget .cfg rfl,
    Vector.ext fun i hi => hget (.chal ⟨i, hi⟩) rfl, Vector.ext fun i hi => hget (.buf ⟨i, hi⟩) rfl⟩

/-! ### The stages of validation as frames -/

theorem keepsOthers_recomputeCrc (q : State) : KeepsOthers .crcBuf q (recomputeCrc q) :=
  keepsOthers_setCrc rfl rfl _ q

theorem keeps_validationWrites_of_crcBuf {q t : State} (h : KeepsOthers .crcBuf q t) : Keeps validationWrites q t :=
  Keeps_mono h fun r hr => by
    cases r with
    | cmd | status | err | crcl | crch => rfl
    | _ => cases hr

theorem keeps_validationWrites_of_macGen {q t : State} (h : KeepsOthers .macGen q t) : Keeps validationWrites q t :=
  Keeps_mono h fun r hr => by
    cases r with
    | cmd | status | err | c1 | c2 | ain | aout | macc => rfl
    | _ => cases hr

/-- Each outcome of the tests leaves the fields, `TLEN` and the buffer as they were parsed. -/
theorem keeps_validateFrame (q : State) : Keeps validationWrites q (validateFrame q) := by
  have hcrc := keeps_validationWrites_of_crcBuf (keepsOthers_recomputeCrc q)
  have ending {t u : State} (h : Keeps validationWrites q t) (he : Keeps endingReg t u) : Keeps validationWrites q u :=
    Keeps_trans h (keeps_validationWrites_of_ending he)
  obtain ⟨_, he⟩ | ⟨_, _, _, he⟩ | ⟨_, _, _, he⟩ | ⟨_, _, _, he⟩ := validateFrame_cases q <;> rw [he]
  case inl | inr.inl => exact ending hcrc (keeps_raiseKeepTrunc _ _)
  case inr.inr.inl =>
    have hmac : Keeps validationWrites q (macStage (modeOf q.ctrl0) (recomputeCrc q)) :=
      Keeps_trans hcrc (keeps_validationWrites_of_macGen (keepsOthers_macStage _ _))
    split
    · exact ending hmac (keeps_accept _)
    · exact ending hmac (keeps_raiseKeepTrunc _ _)
  case inr.inr.inr => exact ending hcrc (keeps_accept _)

/-- Each outcome of the tests leaves the recomputed CRC. -/
theorem validateFrame_crc (q : State) : (validateFrame q).crc = (recomputeCrc q).crc := by
  have hkeep {t : State} (hl : t.crcl = (recomputeCrc q).crcl) (hh : t.crch = (recomputeCrc q).crch) :
      t.crc = (recomputeCrc q).crc := congrArg₂ fromLe16 hl hh
  obtain ⟨_, he⟩ | ⟨_, _, _, he⟩ | ⟨_, _, _, he⟩ | ⟨_, _, _, he⟩ := validateFrame_cases q <;> rw [he]
  case inr.inr.inl => split <;> exact hkeep (by simp) (by simp)
  all_goals exact hkeep (by simp) (by simp)

/-! ### FRM.VALID after a parse that succeeds (45_frame_codec.md R157) -/

/-- Both outcomes of the MAC comparison end alike, `ERR` and `STATUS.MATCH` saying which it was. -/
theorem macOutcome_eq (isMatch : Bool) (t : State) :
    (if isMatch then accept t else raiseKeepTrunc .badMac t) =
      (t.setErr (if isMatch then 0x00 else 0x05)).setMatch isMatch := by
  cases isMatch <;> rfl

/-- The outcomes of the tests, in terms of what FRM.PARSE leaves. -/
theorem validated_cases (s p : State) :
    ((recomputeCrc (validated s p)).crc ≠ p.fcrc ∧
      validateFrame (validated s p) = raiseKeepTrunc .badCrc (recomputeCrc (validated s p))) ∨
    ((recomputeCrc (validated s p)).crc = p.fcrc ∧ p.ctrl0.getLsbD 5 = true ∧ p.cfgChalv = false ∧
      validateFrame (validated s p) = raiseKeepTrunc .challengeRequired (recomputeCrc (validated s p))) ∨
    ((recomputeCrc (validated s p)).crc = p.fcrc ∧ (p.ctrl0.getLsbD 5 = true → p.cfgChalv = true) ∧
      p.cfgKeyv = true ∧
      validateFrame (validated s p) =
        if ctEq6 (macStage (p.ctrl0.getLsbD 5) (recomputeCrc (validated s p))).macc p.mac then
          accept (macStage (p.ctrl0.getLsbD 5) (recomputeCrc (validated s p)))
        else raiseKeepTrunc .badMac (macStage (p.ctrl0.getLsbD 5) (recomputeCrc (validated s p)))) ∨
    ((recomputeCrc (validated s p)).crc = p.fcrc ∧ (p.ctrl0.getLsbD 5 = true → p.cfgChalv = true) ∧
      p.cfgKeyv = false ∧ validateFrame (validated s p) = accept (recomputeCrc (validated s p))) :=
  validateFrame_cases (validated s p)

/-- The outcome that depends on the MAC: what the MAC stage computes from the parsed fields, and the comparison with the
parsed `MAC`. -/
theorem macOutcome_results {m : Bool} {s p t : State}
    (ht : t = if ctEq6 (macStage m (recomputeCrc (validated s p))).macc p.mac then
        accept (macStage m (recomputeCrc (validated s p)))
      else raiseKeepTrunc .badMac (macStage m (recomputeCrc (validated s p)))) :
    IsIvOf m p t.ain ∧ t.c1 = t.ain[8] ∧ t.c2 = t.ain[9] ∧ t.aout = aes128 p.key t.ain ∧
      (∀ j : Fin 6, t.macc[j] = t.aout[j.val]) ∧
      if (∀ j : Fin 6, t.macc[j] = p.mac[j]) then Ends 0xF3 0x00 true p.truncFlag s t
      else Ends 0xF3 0x05 false p.truncFlag s t := by
  rw [macOutcome_eq] at ht
  generalize hu : recomputeCrc (validated s p) = u at ht
  generalize hcmp : ctEq6 (macStage m u).macc p.mac = isMatch at ht
  have hiv : IsIvOf m p (iv m u.payload u.rc u.chal) := by rw [← hu]; exact isIvOf_iv m p
  have hkey : u.key = p.key := by rw [← hu]; rfl
  have hcmd : u.cmd = 0xF3 := by rw [← hu]; rfl
  have hstatus : u.status = withBit s.status 2 p.truncFlag := by rw [← hu]; rfl
  have hmacc : t.macc = (macStage m u).macc := by simp [ht]
  refine ⟨?iv, ?c1, ?c2, ?aout, fun j => ?macc, ?ends⟩
  case iv => simpa [ht] using hiv
  case macc =>
    simp only [ht, setMatch_macc, setErr_macc, macStage_macc, setMatch_aout, setErr_aout, macStage_aout]
    exact macOf_getElem _ j.val j.isLt
  case ends =>
    have hends {e : Byte} {v : Bool} : Ends 0xF3 e v p.truncFlag s (((macStage m u).setErr e).setMatch v) :=
      ends_keepTrunc ((macStage_cmd m u).trans hcmd) ((macStage_status m u).trans hstatus)
    have hiff := comparisonAcceptsExactlyEqualMacs (macStage m u).macc p.mac
    rw [hmacc, ht]
    cases isMatch with
    | true =>
      rw [if_pos (hiff.mp hcmp)]
      exact hends
    | false =>
      rw [if_neg fun heq => Bool.false_ne_true (hcmp.symm.trans (hiff.mpr heq))]
      exact hends
  case c1 | c2 | aout => simp [ht, hkey]

/-- Settles O49: the four outcomes of the tests, in their order. -/
theorem frmValidTestsCrcChallengeMac : Obligations.FrmValidTestsCrcChallengeMac := by
  intro s p hp h0
  obtain ⟨hkey, hcfg, _, hbuf⟩ := frmParse_keeps_inputs hp
  have hchalv : s.cfgChalv = p.cfgChalv := by simp [State.cfgChalv, hcfg]
  have hkeyv : s.cfgKeyv = p.cfgKeyv := by simp [State.cfgKeyv, hcfg]
  have hvalidated := keeps_validated s p
  have hcrcOnly {t : State} (h : Keeps endingReg (recomputeCrc (validated s p)) t) : KeepsOthers .crcBuf p t :=
    Keeps_trans (keepsOthers_of_keeps_endingReg hvalidated) (keepsOthers_trans_ending (keepsOthers_recomputeCrc _) h)
  have hends {e : Byte} {m : Bool} :
      Ends 0xF3 e m p.truncFlag s (((recomputeCrc (validated s p)).setErr e).setMatch m) :=
    ends_keepTrunc (recomputeCrc_cmd _) (recomputeCrc_status _)
  refine ⟨_, exec_frmValid_of_parsed hp h0, ?crc,
    Keeps_trans (keeps_validationWrites_of_ending hvalidated) (keeps_validateFrame _), ?outcome⟩
  case crc =>
    rw [validateFrame_crc, ← hbuf]
    exact setCrc_crc _ _
  case outcome =>
    rw [validateFrame_crc, hchalv, hkeyv, ← hkey]
    obtain ⟨hcrc, he⟩ | ⟨hcrc, hmode, hchal, he⟩ | ⟨hcrc, hchal, hmac, he⟩ | ⟨hcrc, hchal, hmac, he⟩ :=
      validated_cases s p
    case inl =>
      rw [if_pos hcrc, he]
      exact ⟨hends, hcrcOnly (keeps_raiseKeepTrunc _ _)⟩
    case inr.inl =>
      rw [if_neg (not_not_intro hcrc), if_pos ⟨hmode, hchal⟩, he]
      exact ⟨hends, hcrcOnly (keeps_raiseKeepTrunc _ _)⟩
    case inr.inr.inl =>
      rw [if_neg (not_not_intro hcrc), if_neg fun h => by simp [hchal h.1] at h, if_pos hmac]
      exact macOutcome_results he
    case inr.inr.inr =>
      rw [if_neg (not_not_intro hcrc), if_neg fun h => by simp [hchal h.1] at h, if_neg (by simp [hmac]), he]
      exact ⟨hends, hcrcOnly (keeps_accept _)⟩

end Sys2Proof.Proofs

/-! SUPPORT. When a frame is accepted (45_frame_codec.md R157). -/
namespace Sys2Proof.Proofs

open Sys2Proof.Machine Sys2Proof.Laws

/-! ### The acceptance rule -/

/-- The tests of FRM.VALID on the parsed frame `p`, for the buffer, `CFG` and key of `s` (45_frame_codec.md R157). -/
structure PassesTests (s p : State) : Prop where
  crc : p.fcrc = crc16 (s.buf.toList.take (p.tlen.toNat - 2))
  challenge : p.ctrl0.getLsbD 5 = true → s.cfgChalv = true
  mac : s.cfgKeyv = true → ∃ block : Vector Byte 16, IsIvOf (p.ctrl0.getLsbD 5) p block ∧
    ∀ j : Fin 6, p.mac[j] = (aes128 s.key block)[j.val]

/-- The MAC computed is the parsed one exactly if that is the first six bytes of the cipher of an IV of the frame: the
frame has one IV. -/
theorem macc_eq_mac_iff {m : Bool} {s p t : State} (hiv : IsIvOf m p t.ain) (haout : t.aout = aes128 s.key t.ain)
    (hmacc : ∀ j : Fin 6, t.macc[j] = t.aout[j.val]) :
    (∀ j : Fin 6, t.macc[j] = p.mac[j]) ↔
      ∃ block : Vector Byte 16, IsIvOf m p block ∧ ∀ j : Fin 6, p.mac[j] = (aes128 s.key block)[j.val] := by
  rw [haout] at hmacc
  constructor
  · exact fun h => ⟨t.ain, hiv, fun j => (h j).symm.trans (hmacc j)⟩
  · rintro ⟨block, hblock, h⟩ j
    rw [isIvOf_unique hiv hblock] at hmacc
    exact (hmacc j).trans (h j).symm

/-- FRM.VALID of a frame that passes its tests accepts it. -/
theorem frmValid_of_passesTests {s p : State} (hp : exec .frmParse s = .next p) (h0 : p.err = 0x00)
    (h : PassesTests s p) :
    ∃ t, exec .frmValid s = .next t ∧ Ends 0xF3 0x00 true p.truncFlag s t ∧ Keeps validationWrites p t ∧
      t.crc = crc16 (s.buf.toList.take (p.tlen.toNat - 2)) := by
  obtain ⟨t, hexec, hcrc, hkeeps, houtcome⟩ := frmValidTestsCrcChallengeMac s p hp h0
  refine ⟨t, hexec, ?ends, hkeeps, hcrc⟩
  rw [if_neg (not_not_intro (hcrc.trans h.crc.symm)), if_neg fun hc => by simp [h.challenge hc.1] at hc] at houtcome
  split at houtcome
  case isTrue hkeyv =>
    obtain ⟨hiv, _, _, haout, hmacc, hends⟩ := houtcome
    rwa [if_pos ((macc_eq_mac_iff hiv haout hmacc).mpr (h.mac hkeyv))] at hends
  case isFalse => exact houtcome.1

/-- A parsed frame FRM.VALID accepts has passed its tests. -/
theorem passesTests_of_frmValid {s p t : State} (hp : exec .frmParse s = .next p) (h0 : p.err = 0x00)
    (ht : exec .frmValid s = .next t) (hmatch : t.matchFlag = true) : PassesTests s p := by
  obtain ⟨u, hu, hcrc, _, houtcome⟩ := frmValidTestsCrcChallengeMac s p hp h0
  cases hu.symm.trans ht
  have rejected {e : Byte} {v : Bool} (h : Ends 0xF3 e false v s t) : False := by
    obtain ⟨_, _, hfalse, _⟩ := h
    simp [hmatch] at hfalse
  have hgood : t.crc = p.fcrc := by
    by_contra hbad
    rw [if_pos hbad] at houtcome
    exact rejected houtcome.1
  rw [if_neg (not_not_intro hgood)] at houtcome
  have hchal : ¬(p.ctrl0.getLsbD 5 = true ∧ s.cfgChalv = false) := by
    intro hmissing
    rw [if_pos hmissing] at houtcome
    exact rejected houtcome.1
  rw [if_neg hchal] at houtcome
  refine ⟨hgood.symm.trans hcrc, fun hmode => ?challenge, fun hkeyv => ?mac⟩
  case challenge => exact Bool.eq_true_of_not_eq_false fun h => hchal ⟨hmode, h⟩
  case mac =>
    rw [if_pos hkeyv] at houtcome
    obtain ⟨hiv, _, _, haout, hmacc, hends⟩ := houtcome
    split at hends
    case isTrue heq => exact (macc_eq_mac_iff hiv haout hmacc).mp heq
    case isFalse => exact (rejected hends).elim

/-- Where FRM.PARSE ends in an error, FRM.VALID ends in the same and accepts nothing. -/
theorem frmValid_rejects_of_frmParse_error {s p t : State} (hp : exec .frmParse s = .next p) (h0 : p.err ≠ 0x00)
    (ht : exec .frmValid s = .next t) : t.matchFlag = false := by
  cases he : armedParseError s with
  | some k =>
    cases ht.symm.trans (exec_frmValid_of_error he)
    simp [raise]
  | none =>
    cases hp.symm.trans (exec_frmParse_of_none he)
    exact absurd rfl h0

/-- Settles O51: the tests are passed exactly if the frame is accepted, once it has parsed. -/
theorem frameIsAcceptedIffItsTestsHold : Obligations.FrameIsAcceptedIffItsTestsHold := by
  intro s t p ht hp
  constructor
  case mp =>
    intro hmatch
    have h0 : p.err = 0x00 := by
      by_contra h0
      simp [frmValid_rejects_of_frmParse_error hp h0 ht] at hmatch
    obtain ⟨hcrc, hchal, hmac⟩ := passesTests_of_frmValid hp h0 ht hmatch
    exact ⟨h0, hcrc, hchal, hmac⟩
  case mpr =>
    rintro ⟨h0, hcrc, hchal, hmac⟩
    obtain ⟨u, hu, ⟨_, _, hmatch, _⟩, _⟩ := frmValid_of_passesTests hp h0 ⟨hcrc, hchal, hmac⟩
    cases hu.symm.trans ht
    exact hmatch

/-! ### Acceptance in terms of the buffer -/

/-- The payload of a frame stands behind its header. -/
theorem payload_of_holdsFrame {m : Bool} {n : Nat} {t : State} (h : t.HoldsFrame m n)
    (hl : 17 + n + rollingLength m ≤ 32) : t.payload = (t.buf.toList.drop 8).take (n + 1) := by
  have hplen := h.plen
  apply List.ext_getElem
  · simp [State.payload, State.paramBytes]
    omega
  · intro i hi _
    have hin : i < n + 1 := by simp [State.payload, State.paramBytes] at hi; omega
    rcases i with _ | i
    · simpa [State.payload, byteAt_of_lt] using h.opc.symm
    · have hpar := h.params ⟨i, by omega⟩ (by simpa using hin)
      rw [byteAt_of_lt _ _ (by omega)] at hpar
      simpa [State.payload, State.paramBytes, show 8 + (i + 1) = 9 + i by omega] using hpar.symm

/-- The IV of a frame in terms of the buffer. -/
theorem isIvOf_of_holdsFrame {m : Bool} {n : Nat} {t : State} (h : t.HoldsFrame m n)
    (hl : 17 + n + rollingLength m ≤ 32) :
    IsIvOf m t (iv m ((t.buf.toList.drop 8).take (n + 1))
      (fromLe16 (byteAt t.buf (9 + n)) (byteAt t.buf (10 + n))) t.chal) := by
  have hrc : m = false → t.rc = fromLe16 (byteAt t.buf (9 + n)) (byteAt t.buf (10 + n)) := fun hm =>
    have ⟨hlow, hhigh⟩ := h.rc hm
    (congrArg₂ fromLe16 hlow hhigh).symm
  rw [← payload_of_holdsFrame h hl, ← iv_congr t.payload hrc fun _ => rfl]
  exact isIvOf_iv m t

/-- The stored CRC of a frame stands behind its MAC. -/
theorem fcrc_of_holdsFrame {m : Bool} {n : Nat} {t : State} (h : t.HoldsFrame m n) :
    t.fcrc = fromLe16 (byteAt t.buf (15 + n + rollingLength m)) (byteAt t.buf (16 + n + rollingLength m)) :=
  (congrArg₂ fromLe16 h.fcrcl h.fcrch).symm

/-- FRM.PARSE of an armed block, on a buffer that begins with a frame of mode `m` with `n` parameter bytes. -/
theorem frmParse_of_buffer {s : State} {m : Bool} {n : Nat} (hinit : s.initFlag = true)
    (hmode : (byteAt s.buf 0).getLsbD 5 = m) (hlen : (byteAt s.buf 0).toNat % 32 = 6 + n + rollingLength m)
    (hfit : 17 + n + rollingLength m ≤ s.buflen.toNat) (hmax : s.buflen.toNat ≤ 32) :
    ∃ p, exec .frmParse s = .next p ∧ p.err = 0x00 ∧ p.HoldsFrame m n ∧
      p.truncFlag = decide (17 + n + rollingLength m < s.buflen.toNat) := by
  obtain ⟨p, hp, _, ⟨_, h0, _, htrunc, _⟩, hframe, _⟩ := frmParseLoadsTheFields s hinit (by omega) hmax (by omega)
    (by rw [hmode]; omega)
  rw [hmode, hlen, show 6 + n + rollingLength m - 6 - rollingLength m = n by omega] at hframe
  rw [hlen, show 6 + n + rollingLength m + 11 = 17 + n + rollingLength m by omega] at htrunc
  exact ⟨p, hp, h0, hframe, htrunc⟩

/-- Settles O50: the buffer parses, and the parsed frame passes the tests. -/
theorem frmValidAcceptsAGoodFrame : Obligations.FrmValidAcceptsAGoodFrame := by
  intro s m n hinit hmode hlen hfit hmax hcrc hchal hmac
  obtain ⟨p, hp, h0, hframe, htrunc⟩ := frmParse_of_buffer hinit hmode hlen hfit hmax
  obtain ⟨_, _, hchalIn, hbuf⟩ := frmParse_keeps_inputs hp
  have hp0 : p.ctrl0.getLsbD 5 = m := by rw [← hframe.ctrl0, hbuf, hmode]
  have htl : p.tlen.toNat - 2 = 15 + n + rollingLength m := by have := hframe.tlen; omega
  have hpasses : PassesTests s p := by
    constructor
    case crc => rw [fcrc_of_holdsFrame hframe, hbuf, htl, hcrc]
    case challenge => rwa [hp0]
    case mac =>
      intro hkeyv
      refine ⟨_, hp0 ▸ isIvOf_of_holdsFrame hframe (by omega), fun j => ?_⟩
      rw [← hframe.mac j, hbuf, hmac hkeyv j, hchalIn, hp0]
  obtain ⟨t, ht, hends, hkeeps, htcrc⟩ := frmValid_of_passesTests hp h0 hpasses
  rw [htrunc] at hends
  rw [htl] at htcrc
  exact ⟨t, ht, keepsOthers_of_exec rfl ht, holdsFrame_of_keeps hframe hkeeps, hends, htcrc⟩

/-- A frame in the buffer whose stored CRC is not that of the bytes before it is rejected, whatever the key, the
challenge and `CFG`. -/
theorem frmValid_of_wrongCrc {s : State} {m : Bool} {n : Nat} (hinit : s.initFlag = true)
    (hmode : (byteAt s.buf 0).getLsbD 5 = m) (hlen : (byteAt s.buf 0).toNat % 32 = 6 + n + rollingLength m)
    (hfit : 17 + n + rollingLength m ≤ s.buflen.toNat) (hmax : s.buflen.toNat ≤ 32)
    (hcrc : crc16 (s.buf.toList.take (15 + n + rollingLength m)) ≠
      fromLe16 (byteAt s.buf (15 + n + rollingLength m)) (byteAt s.buf (16 + n + rollingLength m))) :
    ∃ t, exec .frmValid s = .next t ∧ t.err = 0x04 ∧ t.matchFlag = false := by
  obtain ⟨p, hp, h0, hframe, _⟩ := frmParse_of_buffer hinit hmode hlen hfit hmax
  obtain ⟨_, _, _, hbuf⟩ := frmParse_keeps_inputs hp
  obtain ⟨t, ht, htcrc, _, houtcome⟩ := frmValidTestsCrcChallengeMac s p hp h0
  have htl : p.tlen.toNat - 2 = 15 + n + rollingLength m := by have := hframe.tlen; omega
  rw [← hbuf, ← fcrc_of_holdsFrame hframe, hbuf, ← htl, ← htcrc] at hcrc
  rw [if_pos hcrc] at houtcome
  obtain ⟨⟨_, herr, hmatch, _⟩, _⟩ := houtcome
  exact ⟨t, ht, herr, hmatch⟩

end Sys2Proof.Proofs

/-! SUPPORT. Round trips: parsing and validating what FRM.BUILD built, serializing what FRM.PARSE parsed, and single-bit
errors in a built frame (45_frame_codec.md R159). -/
namespace Sys2Proof.Proofs

open Sys2Proof.Machine Sys2Proof.Laws

/-! ### What FRM.BUILD leaves -/

/-- A frame of mode `m` with `n` parameter bytes stands in `BUF` as FRM.BUILD leaves it: with the field registers it was
laid out from, its CRC, and its MAC under `KEY`. -/
structure IsBuilt (m : Bool) (n : Nat) (t : State) : Prop where
  armed : t.initFlag = true
  fits : 17 + n + rollingLength m ≤ 32
  ctrl0 : t.ctrl0 = builtCtrl0 m (17 + n + rollingLength m)
  frame : t.HoldsFrame m n
  buflen : t.buflen = t.tlen
  crc : t.fcrc = crc16 (t.buf.toList.take (15 + n + rollingLength m))
  mac : t.mac = macOf (aes128 t.key (iv m t.payload t.rc t.chal))
  noMatch : t.matchFlag = false
  noTrunc : t.truncFlag = false

/-- FRM.BUILD that completes found no error. -/
theorem frmBuild_completes {s t : State} (h : exec .frmBuild s = .next t) (h0 : t.err = 0x00) :
    buildError s = none := by
  cases he : buildError s with
  | some k =>
    cases h.symm.trans (exec_frmBuild_of_error he)
    exact absurd h0 (errorCode_ne_zero k)
  | none => rfl

theorem isBuilt_of_frmBuild {s t : State} (h : exec .frmBuild s = .next t) (h0 : t.err = 0x00) :
    IsBuilt s.cfgMode s.plen.toNat t := by
  have hpass := frmBuild_completes h h0
  obtain ⟨hinit, hplen, hl, hchalv⟩ : s.initFlag = true ∧ s.plen.toNat ≤ 21 ∧
      17 + s.plen.toNat + rollingLength s.cfgMode ≤ 32 ∧ (s.cfgMode = true → s.cfgChalv = true) := by
    rw [buildError_eq] at hpass
    split_ifs at hpass with hinit hplen hl hchalv
    exact ⟨by simpa using hinit, by omega, by omega, fun hm => by simpa [hm] using hchalv⟩
  obtain ⟨u, hu, ⟨_, _, hmatch, htrunc, hstatus⟩, _, _, _, _, _, _, _, _, _, hframe, hcrc, hfcrc, hbuflen, _⟩ :=
    frmBuildBuildsTheFrame s hinit hplen hl hchalv
  cases hu.symm.trans h
  have ht := h.symm.trans (exec_frmBuild_of_none hpass)
  simp only [Host.Outcome.next.injEq] at ht
  refine ⟨(hstatus 0 (by decide) (by decide)).trans hinit, hl, ?ctrl0, hframe, hbuflen, hfcrc.trans hcrc, ?mac, hmatch,
    htrunc⟩
  case ctrl0 => simp [ht, totalLength_eq]
  case mac => simp [ht, State.payload, State.paramBytes, State.rc]

section
variable {m : Bool} {n : Nat} {t : State}

theorem IsBuilt.mode (h : IsBuilt m n t) : t.ctrl0.getLsbD 5 = m := by
  rw [h.ctrl0]
  exact modeOf_builtCtrl0 m _ h.fits

theorem IsBuilt.stated (h : IsBuilt m n t) : statedLength t.ctrl0 = 17 + n + rollingLength m := by
  rw [h.ctrl0]
  exact statedLength_builtCtrl0 m _ (by omega) h.fits

/-- The MAC of a built frame, in terms of the fields a parse of it finds. -/
theorem IsBuilt.mac_getElem (h : IsBuilt m n t) (j : Fin 6) :
    t.mac[j] = (aes128 t.key (iv (t.ctrl0.getLsbD 5) t.payload t.rc t.chal))[j.val] := by
  rw [h.mode, h.mac]
  exact macOf_getElem _ j.val j.isLt

/-- Writing a bit's own value changes nothing. -/
theorem withBit_eq_self {b : Byte} {k : Nat} {v : Bool} (hk : k < 8) (h : b.getLsbD k = v) : withBit b k v = b := by
  apply BitVec.eq_of_getLsbD_eq
  intro j _
  rw [withBit_getLsbD b k j v hk]
  split
  case isTrue hj => rw [hj, h]
  case isFalse => rfl

/-- FRM.PARSE of a built frame whose build has just completed changes `CMD` alone. -/
theorem exec_frmParse_of_isBuilt (h : IsBuilt m n t) (h0 : t.err = 0x00) :
    exec .frmParse t = .next (t.setCmd 0xF2) := by
  obtain ⟨hparse, hload⟩ := loadFrame_of_holdsFrame h.frame h.mode h.stated h.fits (Nat.le_of_eq (by rw [h.buflen]))
  rw [exec_frmParse_of_none ((armedParseError_eq_none_iff t).mpr ⟨h.armed, hparse⟩)]
  have hkeeps : Keeps endingReg (loadFrame t) (complete ((loadFrame (t.setCmd 0xF2)).setMatch false)) :=
    keeps_endingReg_update (loadFrame t) 0xF2 _ _
  have hfull : decide (t.buflen.toNat > statedLength (byteAt t.buf 0)) = false := by
    rw [h.frame.ctrl0, h.stated, h.buflen, h.frame.tlen]
    exact decide_eq_false (Nat.lt_irrefl _)
  refine congrArg Host.Outcome.next (state_ext_get _ _ (fun r => ?_) (by simp) (by simp))
  cases hr : endingReg r with
  | false =>
    calc _ = (loadFrame t).get r := hkeeps.1 r hr
      _ = t.get r := hload r (by rintro rfl; cases hr)
      _ = (t.setCmd 0xF2).get r := ((keeps_setCmd 0xF2 t).1 r hr).symm
  | true =>
    cases r with
    | cmd => rfl
    | err => exact h0.symm
    | status =>
      show withBit (withBit t.status 2 (decide (t.buflen.toNat > statedLength (byteAt t.buf 0)))) 1 false = t.status
      rw [hfull, withBit_eq_self (by decide) h.noTrunc, withBit_eq_self (by decide) h.noMatch]
    | _ => cases hr

end

/-- Settles O52: the parse loads what is there already. -/
theorem parsingABuiltFrameGivesItBack : Obligations.ParsingABuiltFrameGivesItBack := by
  intro s t hbuild h0
  have h := isBuilt_of_frmBuild hbuild h0
  exact ⟨_, exec_frmParse_of_isBuilt h h0, h0, h.noTrunc, fun r hr => by rw [setCmd_get, if_neg hr], rfl⟩

/-! ### Serializing a parsed frame -/

/-- Writing an array's own first bytes changes nothing. -/
theorem patch_take_self {k : Nat} (v : Vector Byte k) (n : Nat) : patch v 0 (v.toList.take n) = v := by
  apply Vector.ext
  intro i hi
  rw [patch_getElem, if_pos (Nat.zero_le i)]
  by_cases hn : i < n <;> simp [hn, hi]

/-- A frame held with a CRC that is correct, followed by that CRC, is what the buffer begins with. -/
theorem frameBody_append_crc {m : Bool} {n : Nat} {t : State} (h : t.HoldsFrame m n)
    (hl : 17 + n + rollingLength m ≤ 32) (hcrc : t.fcrc = crc16 (t.bufBytes (15 + n + rollingLength m))) :
    frameBody m n t ++ le16 (crc16 (frameBody m n t)) = t.bufBytes (17 + n + rollingLength m) := by
  have hbody : frameBody m n t = t.bufBytes (15 + n + rollingLength m) := frameBody_of_holdsFrame h (by omega) hl
  have hlow := bufBytes_succ t (n := 15 + n + rollingLength m) (by omega)
  have hhigh := bufBytes_succ t (n := 16 + n + rollingLength m) (by omega)
  rw [show 15 + n + rollingLength m + 1 = 16 + n + rollingLength m by omega, h.fcrcl] at hlow
  rw [show 16 + n + rollingLength m + 1 = 17 + n + rollingLength m by omega, h.fcrch, hlow] at hhigh
  rw [hbody, ← hcrc, hhigh]
  simp [le16, State.fcrc]

/-- FRM.PARSE keeps the block armed. -/
theorem frmParse_initFlag {s p : State} (h : armedParseError s = none)
    (hp : p = complete ((loadFrame (s.setCmd 0xF2)).setMatch false)) : p.initFlag = true := by
  obtain ⟨⟨_, _, _, _, hstatus⟩, _⟩ := frmParse_results h hp
  exact (hstatus 0 (by decide) (by decide)).trans ((armedParseError_eq_none_iff s).mp h).1

/-- Settles O53: the parsed fields pass the tests of FRM.SER, and the frame written over the buffer is the one that
stands there. -/
theorem serializingAParsedFrameGivesItsBytes : Obligations.SerializingAParsedFrameGivesItsBytes := by
  intro s p hp h0 hcrc
  obtain ⟨hpass, hload⟩ := frmParse_completes hp h0
  obtain ⟨_, _, _, hbuf⟩ := frmParse_keeps_inputs hp
  obtain ⟨_, hframe, _⟩ := frmParse_results hpass hload
  obtain ⟨hmin, hmax, _⟩ := stated_bounds hpass
  have hinit := frmParse_initFlag hpass hload
  have hparams := statedParams_eq (byteAt s.buf 0)
  have hstated := statedLength_eq (byteAt s.buf 0)
  have hctrl0 : p.ctrl0 = byteAt s.buf 0 := by rw [← hframe.ctrl0, hbuf]
  have hplen := hframe.plen
  have htlen := hframe.tlen
  rw [← hctrl0] at hmin hmax hparams hstated hframe hplen htlen
  have hser : serError p = none := by
    rw [serError_eq, ← modeOf_eq, if_neg (by simp [hinit]), if_neg (by omega), if_neg (by omega), if_neg (by omega)]
  have hcrc' : p.fcrc = crc16 (p.bufBytes (15 + statedParams p.ctrl0 + rollingLength (modeOf p.ctrl0))) := by
    rw [hcrc, htlen, State.bufBytes, hbuf]
    congr 2
    omega
  refine ⟨_, exec_frmSer_of_none hser, rfl, ?buf⟩
  rw [completePlain_buf, serialize_buf, hplen, ← hbuf]
  exact (congrArg (patch p.buf 0) (frameBody_append_crc hframe (by omega) hcrc')).trans (patch_take_self _ _)

/-! ### Validating a built frame -/

/-- FRM.PARSE does not read `CFG`. -/
theorem exec_frmParse_withCfg {t p : State} (c : Byte) (h : exec .frmParse t = .next p) (h0 : p.err = 0x00) :
    exec .frmParse (t.withCfg c) = .next (p.withCfg c) := by
  obtain ⟨hpass, rfl⟩ := frmParse_completes h h0
  exact exec_frmParse_of_none (s := t.withCfg c) hpass

/-- Settles O54: the parse finds the fields the CRC and the MAC were computed from. -/
theorem builtFramesValidate : Obligations.BuiltFramesValidate := by
  intro s t c hbuild h0 hchal
  have h := isBuilt_of_frmBuild hbuild h0
  have hp := exec_frmParse_withCfg c (exec_frmParse_of_isBuilt h h0) h0
  have hpasses : PassesTests (t.withCfg c) ((t.setCmd 0xF2).withCfg c) := by
    constructor
    case crc =>
      have htl : t.tlen.toNat - 2 = 15 + s.plen.toNat + rollingLength s.cfgMode := by have := h.frame.tlen; omega
      exact h.crc.trans (congrArg (fun k => crc16 (t.buf.toList.take k)) htl.symm)
    case challenge => exact hchal
    case mac => exact fun _ => ⟨_, isIvOf_iv _ _, h.mac_getElem⟩
  obtain ⟨u, hu, ⟨_, herr, hmatch, htrunc, _⟩, _⟩ := frmValid_of_passesTests hp h0 hpasses
  exact ⟨u, hu, herr, hmatch, htrunc.trans h.noTrunc⟩

/-! ### Single-bit errors -/

/-- Element `k` of an array after another element, or the same, was replaced. -/
theorem byteAt_set {n : Nat} (v : Vector Byte n) (i : Fin n) (x : Byte) (k : Nat) (hk : k < n) :
    byteAt (v.set i x) k = if i.val = k then x else byteAt v k := by
  rw [byteAt_of_lt _ _ hk, byteAt_of_lt _ _ hk, Vector.getElem_set]

/-- Flipping a bit changes a byte. -/
theorem flip_ne (b : Byte) {j : Nat} (hj : j < 8) : b ^^^ (0x01#8 <<< j) ≠ b := by
  intro h
  have hbit := congrArg (fun x : Byte => x.getLsbD j) h
  simp [hj] at hbit

/-- Flipping a bit leaves the bits below it. -/
theorem flip_getLsbD (b : Byte) {j k : Nat} (hk : k < j) : (b ^^^ (0x01#8 <<< j)).getLsbD k = b.getLsbD k := by
  simp [BitVec.getLsbD_shiftLeft, hk]

/-- Flipping bit 6 or 7 of a control byte leaves the length it states. -/
theorem statedLength_flip (b : Byte) {j : Nat} (hj : 6 ≤ j) : statedLength (b ^^^ (0x01#8 <<< j)) = statedLength b := by
  have hmask : (b ^^^ (0x01#8 <<< j)) &&& 0x1F = b &&& 0x1F := by
    apply BitVec.eq_of_getLsbD_eq
    intro k hk
    rw [BitVec.getLsbD_and, BitVec.getLsbD_and]
    by_cases hlow : k < 5
    case pos => rw [flip_getLsbD b (by omega)]
    case neg =>
      have hzero : (0x1F : Byte).getLsbD k = false := by interval_cases k <;> rfl
      rw [hzero, Bool.and_false, Bool.and_false]
  rw [statedLength, statedLength, lengthFieldOf, lengthFieldOf, hmask]

/-- Where two bytes of a buffer are the CRC of those before them, changing one byte of all these breaks that. -/
theorem crc16_set_ne_stored {buf : Vector Byte 32} {k l : Nat} (hkl : l = k + 1) (hl : l < 32)
    (h : crc16 (buf.toList.take k) = fromLe16 (byteAt buf k) (byteAt buf l)) (i : Fin 32) (hi : i.val ≤ l)
    {x : Byte} (hx : x ≠ buf[i]) :
    crc16 ((buf.set i x).toList.take k) ≠ fromLe16 (byteAt (buf.set i x) k) (byteAt (buf.set i x) l) := by
  rw [Vector.toList_set, List.take_set, byteAt_set _ _ _ _ (by omega), byteAt_set _ _ _ _ hl]
  by_cases hin : i.val < k
  case pos =>
    rw [if_neg (by omega), if_neg (by omega), ← h]
    exact crc16_set_ne _ _ _ (by simp; omega) (by simpa using hx)
  case neg =>
    rw [List.set_eq_of_length_le (by simp; omega), h, Ne, fromLe16_inj]
    rintro ⟨hlow, hhigh⟩
    obtain hik | hik : i.val = k ∨ i.val = l := by omega
    · rw [if_pos hik, ← hik, byteAt_of_lt _ _ i.isLt] at hlow
      exact hx hlow.symm
    · rw [if_pos hik, ← hik, byteAt_of_lt _ _ i.isLt] at hhigh
      exact hx hhigh.symm

/-- Flipping a bit of a built frame outside `ctrl0[5:0]` leaves the mode and the length its first byte states. -/
theorem IsBuilt.flipped_ctrl0 {m : Bool} {n : Nat} {t : State} (h : IsBuilt m n t) (i : Fin 32) {j : Nat}
    (hctrl0 : i.val = 0 → 6 ≤ j) :
    (byteAt (t.buf.set i (t.buf[i] ^^^ (0x01#8 <<< j))) 0).getLsbD 5 = m ∧
      statedLength (byteAt (t.buf.set i (t.buf[i] ^^^ (0x01#8 <<< j))) 0) = 17 + n + rollingLength m := by
  rw [← h.stated, ← h.mode, ← h.frame.ctrl0, byteAt_set _ _ _ _ (by decide)]
  split
  case isTrue hi =>
    have hbyte : byteAt t.buf 0 = t.buf[i] := by rw [← hi]; exact byteAt_of_lt _ _ i.isLt
    have hj := hctrl0 hi
    rw [hbyte]
    exact ⟨flip_getLsbD _ (by omega), statedLength_flip _ hj⟩
  case isFalse => exact ⟨rfl, rfl⟩

/-- Settles O55: the flipped frame parses with the same length, and its CRC is no longer that of the bytes before it. -/
theorem singleBitFlipsAreRejected : Obligations.SingleBitFlipsAreRejected := by
  intro s t i j c key chal hbuild h0 hi hj hctrl0
  have h := isBuilt_of_frmBuild hbuild h0
  obtain ⟨hmode, hstated⟩ := h.flipped_ctrl0 i hctrl0
  rw [statedLength_eq] at hstated
  have hlen : (byteAt (t.buf.set i (t.buf[i] ^^^ (0x01#8 <<< j))) 0).toNat % 32 =
      6 + s.plen.toNat + rollingLength s.cfgMode := by omega
  have htlen := h.frame.tlen
  have hbuflen : t.buflen.toNat = 17 + s.plen.toNat + rollingLength s.cfgMode :=
    (congrArg BitVec.toNat h.buflen).trans htlen
  have hfits := h.fits
  have hstored := h.crc.symm.trans (fcrc_of_holdsFrame h.frame)
  exact frmValid_of_wrongCrc h.armed hmode hlen (Nat.le_of_eq hbuflen.symm) (hbuflen.trans_le hfits)
    (crc16_set_ne_stored (by omega) (by omega) hstored i (by omega) (flip_ne t.buf[i] hj))

end Sys2Proof.Proofs

/-! SUPPORT. The host transactions and CFG.INIT: what WR and RD do at each address, what a transaction makes of the
host's list and of the observation, and the run over a list of words (46_config_host.md). -/
namespace Sys2Proof.Proofs

open Sys2Proof.Machine Sys2Proof.Laws

/-! ### Words of the spec's examples (30_encoding.md R60 to R62) -/

/-- The word of a well-formed instruction decodes to it. -/
theorem decode_of_eq_encode {w : HostWord} {i : Instr} (hw : w = encode i) (hi : i.WellFormed) : decode w = i := by
  rw [hw, decodeOfEncodeIsTheInstruction i hi]

/-- Settles O4: each word is put together from its fields. -/
theorem sampleWordsDecode : Obligations.SampleWordsDecode := by
  refine ⟨?_, ?_, ?_, ?_, ?_, ?_, ?_, ?_⟩
  all_goals exact decode_of_eq_encode (by decide) (by decide)

/-! ### Steps (46_config_host.md R178) -/

/-- Issuing the words that are pending already changes nothing. -/
theorem withHostList_pending (s : State) : s.withHostList s.pending = s := rfl

/-- Settles O5: a state is one whose host list is what it has pending. -/
theorem stepRunsTheDecodedTransaction : Obligations.StepRunsTheDecodedTransaction := by
  intro s
  refine ⟨fun w rest h => ?taken, fun h => ?idle⟩
  case taken =>
    calc step s
      _ = step (s.withHostList (w :: rest)) := by rw [← h, withHostList_pending]
      _ = exec (decode w) (s.withHostList rest) := step_withHostList_cons s w rest
  case idle =>
    calc step s
      _ = step (s.withHostList []) := by rw [← h, withHostList_pending]
      _ = .next (s.withHostList []) := rfl
      _ = .next s := by rw [← h, withHostList_pending]

/-! ### CFG.INIT (46_config_host.md R170) -/

/-- Settles O19: the flag is set first, and the ending of every command leaves it. -/
theorem cfgInitArmsTheCodec : Obligations.CfgInitArmsTheCodec := by
  intro s
  have hexec : exec .cfgInit s = .next (completePlain ((s.setCmd 0x80).setInit true)) := rfl
  obtain ⟨hcmd, herr, hmatch, htrunc, hstatus⟩ :=
    ends_completePlain (c := 0x80) (s := (s.setCmd 0x80).setInit true) rfl rfl
  refine ⟨_, hexec, ?armed, hmatch, htrunc, fun k hk => ?reserved, hcmd, herr, keepsOthers_of_exec rfl hexec⟩
  case armed => exact (hstatus 0 (by decide) (by decide)).trans (setInit_initFlag true _)
  case reserved =>
    rw [hstatus k (by omega) (by omega), setInit_status, setCmd_status, withBit_getLsbD _ _ _ _ (by decide),
      if_neg (by omega)]

/-! ### Writing `CMD` (46_config_host.md R171, 30_encoding.md R63) -/

/-- The table has rows for commands only. -/
theorem isCommand_of_commandOf_some {c : Byte} {i : Instr} (h : commandOf c = some i) : isCommand i = true := by
  cases i with
  | wr a d => exact absurd h (commandOf_ne_host c a d).1
  | rd a x => exact absurd h (commandOf_ne_host c a x).2
  | _ => rfl

/-- A code selects its command: no other code has the command's word. -/
theorem exec_wr_of_commandOf_some {c : Byte} {i : Instr} (h : commandOf c = some i) (s : State) :
    exec (.wr 0x00 c) s = exec i s := by
  obtain ⟨c', _, hword, hexec⟩ := exists_code_of_isCommand (isCommand_of_commandOf_some h)
  have hcode : c = c' := (makeWord_inj.mp ((commandOf_some c i h).2.symm.trans hword)).2.2
  rw [hexec, ← hcode]
  rfl

theorem exec_wr_of_commandOf_none {c : Byte} (h : commandOf c = none) (s : State) :
    exec (.wr 0x00 c) s = .next (raise .illegalCommand (s.setCmd c)) := by
  calc exec (.wr 0x00 c) s
    _ = .next (runCommand c (s.setCmd c)) := rfl
    _ = .next (raise .illegalCommand (s.setCmd c)) := by rw [runCommand, h]

/-- No code stands in two rows of the table. -/
theorem commandOf_of_mem_commandTable : ∀ row ∈ commandTable, commandOf row.1 = some row.2 := by decide

/-- Settles O16: looking a row's code up gives the row's command. -/
theorem writingACodeRunsItsCommand : Obligations.WritingACodeRunsItsCommand :=
  fun c i s h => exec_wr_of_commandOf_some (commandOf_of_mem_commandTable (c, i) h) s

/-! ### Writing any other address (46_config_host.md R171) -/

theorem exec_wr_of_ne_zero {a : Byte} (h : a ≠ 0x00) (v : Byte) (s : State) :
    exec (.wr a v) s = .next (s.writeAt a v) := if_neg h

/-- A write to the address of a register keeps every other register. -/
theorem keeps_writeAt_addrOf (r : Reg) (v : Byte) (s : State) :
    Keeps (fun q => decide (q = r)) s (s.writeAt (addrOf r) v) := by
  refine ⟨fun q hq => writeAt_get_other s _ v q fun hreg => ?_, writeAt_pending s _ v, writeAt_observed s _ v⟩
  rw [regAt_addrOf] at hreg
  exact of_decide_eq_false hq (Option.some.inj hreg).symm

/-- The byte `CFG` takes, as a number (10_state.md R16). -/
theorem toNat_and_seven (v : Byte) : (v &&& 0x07).toNat = v.toNat % 8 :=
  (BitVec.toNat_and v 0x07).trans (Nat.and_two_pow_sub_one_eq_mod v.toNat 3)

/-- The byte `BUFLEN` takes, as a number (10_state.md R18). -/
theorem toNat_saturate32 (v : Byte) : (saturate32 v).toNat = min v.toNat 32 := by
  unfold saturate32
  split
  case isTrue h => exact (Nat.min_eq_left h).symm
  case isFalse h => exact (Nat.min_eq_right (Nat.le_of_not_le h)).symm

/-- What a register holds after a write to its address: the rule of R171 for it. -/
theorem toNat_get_writeAt_addrOf {r : Reg} (hr : r ≠ .cmd) (v : Byte) (s : State) :
    ((s.writeAt (addrOf r) v).get r).toNat =
      if r = .status ∨ r = .err ∨ r = .tlen then (s.get r).toNat
      else if r = .cfg then v.toNat % 8
      else if r = .buflen then min v.toNat 32
      else v.toNat := by
  by_cases hrule : r ∈ [Reg.cmd, .status, .err, .tlen, .cfg, .buflen]
  · simp only [List.mem_cons, List.not_mem_nil, or_false] at hrule
    obtain rfl | rfl | rfl | rfl | rfl | rfl := hrule
    case inl => exact absurd rfl hr
    case inr.inr.inr.inr.inl => exact toNat_and_seven v
    case inr.inr.inr.inr.inr => exact toNat_saturate32 v
    all_goals rfl
  · rw [writeAt_addrOf hrule, get_set_same]
    simp only [List.mem_cons, List.not_mem_nil, or_false, not_or] at hrule
    obtain ⟨_, hstatus, herr, htlen, hcfg, hbuflen⟩ := hrule
    rw [if_neg (by simp [hstatus, herr, htlen]), if_neg hcfg, if_neg hbuflen]

/-- A write to a reserved address is ignored (20_memory.md R41). -/
theorem exec_wr_of_reserved {a : Byte} (h : regAt a = none) (v : Byte) (s : State) : exec (.wr a v) s = .next s := by
  have ha : a ≠ 0x00 := by
    rintro rfl
    exact Option.some_ne_none _ ((regAt_addrOf .cmd).symm.trans h)
  rw [exec_wr_of_ne_zero ha, State.writeAt, h]

/-- Settles O14: the register's rule, the frame of a write, and the reserved addresses. -/
theorem hostWriteStoresOneByte : Obligations.HostWriteStoresOneByte :=
  ⟨fun r v s hr => ⟨_, exec_wr_of_ne_zero (addrOf_ne_zero hr) v s, keeps_writeAt_addrOf r v s,
    toNat_get_writeAt_addrOf hr v s⟩, fun _ v s h => exec_wr_of_reserved h v s⟩

/-! ### Reading (46_config_host.md R172) -/

/-- Settles O17: the byte read goes to the host, whatever the word's data byte. -/
theorem hostReadReturnsTheRegister : Obligations.HostReadReturnsTheRegister := by
  intro a x s
  refine ⟨s.observe (s.readAt a), rfl, observe_get _ s, rfl, ?_⟩
  change s.observed ++ [s.readAt a] = _
  rw [State.readAt]
  cases regAt a <;> rfl

/-! ### Runs (46_config_host.md R178) -/

/-- The bytes a transaction returns to the host. -/
def returnedBytes (s : State) (i : Instr) : List Byte :=
  match i with
  | .rd a _ => [s.readAt a]
  | _ => []

/-- What a command makes of the model's two lists: nothing. -/
theorem exec_lists_of_isCommand {i : Instr} (h : isCommand i = true) (s : State) :
    ∃ t, exec i s = .next t ∧ t.pending = s.pending ∧ t.observed = s.observed := by
  obtain ⟨t, hexec, _, hpending, hobserved⟩ := commandsWriteOnlyTheirOperands i s h
  exact ⟨t, hexec, hpending, hobserved⟩

/-- What a `WR` makes of them: nothing either, a command issue or not. -/
theorem exec_lists_of_wr (a v : Byte) (s : State) :
    ∃ t, exec (.wr a v) s = .next t ∧ t.pending = s.pending ∧ t.observed = s.observed := by
  by_cases ha : a = 0x00
  · subst ha
    cases hc : commandOf v with
    | none => exact ⟨_, exec_wr_of_commandOf_none hc s, rfl, rfl⟩
    | some i =>
      rw [exec_wr_of_commandOf_some hc]
      exact exec_lists_of_isCommand (isCommand_of_commandOf_some hc) s
  · exact ⟨_, exec_wr_of_ne_zero ha v s, writeAt_pending s a v, writeAt_observed s a v⟩

/-- Every transaction ends in a state; it leaves the host's list, and the observation grows by what it returns. -/
theorem exec_lists (i : Instr) (s : State) :
    ∃ t, exec i s = .next t ∧ t.pending = s.pending ∧ t.observed = s.observed ++ returnedBytes s i := by
  cases i with
  | rd a x => exact ⟨s.observe (s.readAt a), rfl, rfl, rfl⟩
  | wr a v => simpa only [returnedBytes, List.append_nil] using exec_lists_of_wr a v s
  | _ => simpa only [returnedBytes, List.append_nil] using exec_lists_of_isCommand rfl s

/-- One byte where bit 16 of the instruction's word is 0, none where it is 1. -/
theorem length_returnedBytes (s : State) (i : Instr) :
    (returnedBytes s i).length = if !wordIsWrite (encode i) then 1 else 0 := by
  cases i with
  | wr a d => simp [returnedBytes, encode]
  | rd a x => simp [returnedBytes, encode]
  | _ => rfl

/-- The word a transaction was decoded from says whether it returns a byte. -/
theorem length_returnedBytes_decode (s : State) (w : HostWord) :
    (returnedBytes s (decode w)).length = if !w.getLsbD 16 then 1 else 0 := by
  rw [length_returnedBytes, (encodeOfDecodeIsTheWord w).2, wordIsWrite]

/-- Settles O6, by induction on the list: each word is one step, which leaves the rest of the list. -/
theorem everyRunEndsWithOneObservationPerRead : Obligations.EveryRunEndsWithOneObservationPerRead := by
  intro words
  induction words with
  | nil => exact fun s => ⟨_, runWords_nil s, rfl, [], (List.append_nil _).symm, rfl⟩
  | cons w rest ih =>
    intro s
    obtain ⟨t, hexec, hpending, hobserved⟩ := exec_lists (decode w) (s.withHostList rest)
    have hrest : t.withHostList rest = t := by
      have hp : t.pending = rest := hpending
      rw [← hp, withHostList_pending]
    have hrun : runWords s (w :: rest) = runWords t rest := runWords_cons (by rw [hrest]; exact hexec)
    obtain ⟨u, hu, hempty, bytes, hbytes, hlength⟩ := ih t
    refine ⟨u, hrun.trans hu, hempty, returnedBytes (s.withHostList rest) (decode w) ++ bytes, ?observed, ?length⟩
    case observed =>
      rw [hbytes, hobserved, List.append_assoc]
      rfl
    case length => rw [List.length_append, length_returnedBytes_decode, hlength, List.countP_cons, Nat.add_comm]

end Sys2Proof.Proofs

/-! SUPPORT. Exceptions: a command other than FRM.VALID raises as its whole effect or completes, and what every
transaction makes of `STATUS.INIT` (60_exceptions.md R183 to R185). -/
namespace Sys2Proof.Proofs

open Sys2Proof.Machine Sys2Proof.Laws

section
variable {s t u : State}

/-! ### `STATUS.INIT` under the endings and the stages -/

/-- `INIT` is a bit of `STATUS`: what leaves the register alone leaves the flag. -/
theorem initFlag_of_status_eq (h : t.status = s.status := by simp) : t.initFlag = s.initFlag :=
  congrArg (·.getLsbD 0) h

@[simp] theorem complete_initFlag (s : State) : (complete s).initFlag = s.initFlag := rfl

@[simp] theorem raise_initFlag (k : ErrorKind) (s : State) : (raise k s).initFlag = s.initFlag :=
  (setTrunc_initFlag _ _).trans (setMatch_initFlag _ _)

@[simp] theorem raiseKeepTrunc_initFlag (k : ErrorKind) (s : State) : (raiseKeepTrunc k s).initFlag = s.initFlag :=
  setMatch_initFlag _ _

@[simp] theorem accept_initFlag (s : State) : (accept s).initFlag = s.initFlag := setMatch_initFlag _ _

@[simp] theorem recomputeCrc_initFlag (s : State) : (recomputeCrc s).initFlag = s.initFlag := initFlag_of_status_eq

@[simp] theorem macStage_initFlag (m : Bool) (s : State) : (macStage m s).initFlag = s.initFlag :=
  initFlag_of_status_eq

/-- Loading a frame writes `STATUS.TRUNC` and no other flag (45_frame_codec.md R155). -/
@[simp] theorem loadFrame_initFlag (s : State) : (loadFrame s).initFlag = s.initFlag := setTrunc_initFlag _ _

/-! ### Raising or completing (60_exceptions.md R183, R184) -/

/-- The two ways a command ends that writes nothing before its last test: it raises an error as its whole effect, or
its last action is `done`, with `STATUS.INIT` as it was. -/
def RaisesOrCompletes (s t : State) : Prop :=
  (∃ k, t = raise k s) ∨ ∃ u, t = complete u ∧ u.initFlag = s.initFlag

theorem raisesOrCompletes_raise (k : ErrorKind) (s : State) : RaisesOrCompletes s (raise k s) := .inl ⟨k, rfl⟩

/-- A command that leaves `STATUS` to its ending, whose result is `m`, completes. -/
theorem raisesOrCompletes_result (m : Bool) (h : u.status = s.status := by simp) :
    RaisesOrCompletes s (complete ((u.setMatch m).setTrunc false)) :=
  .inr ⟨_, rfl, by simpa using initFlag_of_status_eq h⟩

theorem raisesOrCompletes_completePlain (h : u.status = s.status := by simp) :
    RaisesOrCompletes s (completePlain u) :=
  raisesOrCompletes_result false h

/-- A command whose tests come first: it raises the error they give, and completes where they give none. -/
theorem raisesOrCompletes_of_test {e : Option ErrorKind} (herror : ∀ {k}, e = some k → t = raise k s)
    (hnone : e = none → RaisesOrCompletes s t) : RaisesOrCompletes s t := by
  cases he : e with
  | some k => exact .inl ⟨k, herror he⟩
  | none => exact hnone he

theorem raisesOrCompletes_crcVfy (s : State) : RaisesOrCompletes s (crcVfy s) := by
  by_cases hn : s.buflen.toNat < 2
  · rw [crcVfy_of_lt hn]
    exact raisesOrCompletes_raise _ s
  · rw [crcVfy_of_ge (by omega)]
    exact raisesOrCompletes_result _

theorem raisesOrCompletes_crcApp (s : State) : RaisesOrCompletes s (crcApp s) := by
  by_cases hn : 30 < s.buflen.toNat
  · rw [crcApp_of_gt hn]
    exact raisesOrCompletes_raise _ s
  · rw [crcApp_of_le (by omega)]
    exact raisesOrCompletes_completePlain

theorem raisesOrCompletes_ivBuild (s : State) : RaisesOrCompletes s (ivBuild s) :=
  raisesOrCompletes_of_test ivBuild_of_error fun he => by
    rw [ivBuild_of_none he]
    exact raisesOrCompletes_completePlain

theorem raisesOrCompletes_macGen (s : State) : RaisesOrCompletes s (macGen s) :=
  raisesOrCompletes_of_test macGen_of_error fun he => by
    rw [macGen_of_none he]
    exact raisesOrCompletes_completePlain

theorem raisesOrCompletes_macVfy (s : State) : RaisesOrCompletes s (macVfy s) :=
  raisesOrCompletes_of_test macVfy_of_error fun he => by
    rw [macVfy_of_none he]
    exact raisesOrCompletes_result _

theorem raisesOrCompletes_kw2W (s : State) : RaisesOrCompletes s (kw2W s) := by
  cases hc : s.cfgChalv with
  | true => rw [kw2W_of_chalv hc]; exact raisesOrCompletes_completePlain
  | false => rw [kw2W_of_not_chalv hc]; exact raisesOrCompletes_raise _ s

theorem raisesOrCompletes_frmBuild (s : State) : RaisesOrCompletes s (frmBuild s) :=
  raisesOrCompletes_of_test frmBuild_of_error fun he => by
    rw [frmBuild_of_none he]
    exact raisesOrCompletes_completePlain

theorem raisesOrCompletes_frmSer (s : State) : RaisesOrCompletes s (frmSer s) :=
  raisesOrCompletes_of_test frmSer_of_error fun he => by
    rw [frmSer_of_none he]
    exact raisesOrCompletes_completePlain

/-- A parse that succeeds leaves `STATUS.TRUNC` as a result, and ends without writing it again. -/
theorem raisesOrCompletes_frmParse (s : State) : RaisesOrCompletes s (frmParse s) := by
  cases hi : s.initFlag with
  | false => rw [frmParse_of_not_init hi]; exact raisesOrCompletes_raise _ s
  | true =>
    refine raisesOrCompletes_of_test (frmParse_of_error hi) fun he => ?_
    rw [frmParse_of_none hi he]
    exact .inr ⟨_, rfl, by simp⟩

/-- CFG.INIT, which writes the flag, and FRM.VALID, which may fail after it has loaded a frame, are the two commands
left out. -/
theorem raisesOrCompletes_runCommand {c : Byte} {i : Instr} (hc : commandOf c = some i) (hcfg : i ≠ .cfgInit)
    (hvalid : i ≠ .frmValid) (s : State) : RaisesOrCompletes s (runCommand c s) := by
  rw [runCommand, hc]
  cases i with
  | cfgInit => exact absurd rfl hcfg
  | frmValid => exact absurd rfl hvalid
  | crcInit | crcUpd | crcBuf | ivcInit | ivcUpd | aesEnc | kw1W => exact raisesOrCompletes_completePlain
  | crcVfy => exact raisesOrCompletes_crcVfy s
  | crcApp => exact raisesOrCompletes_crcApp s
  | ivBuild => exact raisesOrCompletes_ivBuild s
  | macGen => exact raisesOrCompletes_macGen s
  | macVfy => exact raisesOrCompletes_macVfy s
  | kw2W => exact raisesOrCompletes_kw2W s
  | frmBuild => exact raisesOrCompletes_frmBuild s
  | frmSer => exact raisesOrCompletes_frmSer s
  | frmParse => exact raisesOrCompletes_frmParse s
  | wr | rd => exact raisesOrCompletes_raise _ s

/-! ### `STATUS.INIT` under a transaction (60_exceptions.md R183) -/

theorem RaisesOrCompletes.initFlag (h : RaisesOrCompletes s t) : t.initFlag = s.initFlag := by
  obtain ⟨k, rfl⟩ | ⟨u, rfl, hu⟩ := h
  · exact raise_initFlag k s
  · exact hu

/-- Each outcome of FRM.VALID's tests on a parsed frame (45_frame_codec.md R157). -/
theorem validateFrame_initFlag (s : State) : (validateFrame s).initFlag = s.initFlag := by
  rcases validateFrame_cases s with ⟨_, he⟩ | ⟨_, _, _, he⟩ | ⟨_, _, _, he⟩ | ⟨_, _, _, he⟩ <;> rw [he]
  case inr.inr.inl => split <;> simp
  all_goals simp

theorem frmValid_initFlag (s : State) : (frmValid s).initFlag = s.initFlag := by
  cases hi : s.initFlag with
  | false => rw [frmValid_of_not_init hi, raise_initFlag, hi]
  | true =>
    cases he : parseError s with
    | some k => rw [frmValid_of_error hi he, raise_initFlag, hi]
    | none => rw [frmValid_of_none hi he, validateFrame_initFlag, loadFrame_initFlag, hi]

/-- Every command but CFG.INIT keeps the flag. -/
theorem exec_initFlag_of_isCommand {i : Instr} (hi : isCommand i = true) (hcfg : i ≠ .cfgInit)
    (h : exec i s = .next t) : t.initFlag = s.initFlag := by
  obtain ⟨c, hc, _, hexec⟩ := exists_code_of_isCommand hi
  cases (hexec s).symm.trans h
  by_cases hvalid : i = .frmValid
  · subst hvalid
    rw [runCommand, hc]
    exact frmValid_initFlag (s.setCmd c)
  · exact (raisesOrCompletes_runCommand hc hcfg hvalid (s.setCmd c)).initFlag

/-- The host cannot write `STATUS` (46_config_host.md R171). -/
theorem writeAt_status (s : State) (a v : Byte) : (s.writeAt a v).status = s.status := by
  by_cases ha : regAt a = some .status
  · rw [State.writeAt, ha]
  · exact writeAt_get_other s a v .status ha

/-- A well-formed `WR` keeps the flag: one to `CMD` issues an unassigned code (30_encoding.md R61, R63). -/
theorem exec_wr_initFlag {a v : Byte} (hwf : (Instr.wr a v).WellFormed) (h : exec (.wr a v) s = .next t) :
    t.initFlag = s.initFlag := by
  by_cases ha : a = 0x00
  · subst ha
    cases (exec_wr_of_commandOf_none ((wellFormed_wr_iff _ v).mp hwf rfl) s).symm.trans h
    exact raise_initFlag _ _
  · cases (exec_wr_of_ne_zero ha v s).symm.trans h
    exact initFlag_of_status_eq (writeAt_status s a v)

end

/-- Settles O10: CFG.INIT arms the block, and each other transaction keeps the flag. -/
theorem onlyCfgInitArms : Obligations.OnlyCfgInitArms := by
  intro i s t hwf h
  by_cases hcfg : i = .cfgInit
  · obtain ⟨u, hu, harmed, _⟩ := cfgInitArmsTheCodec s
    subst hcfg
    cases hu.symm.trans h
    simpa using harmed
  · rw [decide_eq_false hcfg, Bool.or_false]
    cases i with
    | wr a v => exact exec_wr_initFlag hwf h
    | rd a x => cases h; rfl
    | _ => exact exec_initFlag_of_isCommand rfl hcfg h

/-- Settles O12: such a command fails only by raising as its whole effect, since one that completes leaves `ERR` 0. -/
theorem failingCommandsWriteNothingElse : Obligations.FailingCommandsWriteNothingElse := by
  intro i s t hi hvalid h herr
  have hcfg : i ≠ .cfgInit := by
    rintro rfl
    cases h
    exact herr rfl
  obtain ⟨c, hc, _, hexec⟩ := exists_code_of_isCommand hi
  cases (hexec s).symm.trans h
  obtain ⟨k, hk⟩ | ⟨u, hu, _⟩ := raisesOrCompletes_runCommand hc hcfg hvalid (s.setCmd c)
  case inl =>
    rw [hk]
    obtain ⟨_, _, hmatch, htrunc, _⟩ := ends_raise (s := s) (t := s.setCmd c) k rfl rfl
    exact ⟨keeps_raise_setCmd k c s, hmatch, htrunc, raise_initFlag k _⟩
  case inr => exact absurd (congrArg State.err hu) herr

end Sys2Proof.Proofs
